-- ==== Sys2Proof/Word.lean ====
section
/-! DEFINITION. The two word types of the machine (00_scope.md R4, R9): data bytes and bus addresses. -/

namespace Sys2Proof

/-- A byte: data, registers other than PC, operand bytes (00_scope.md R8, 10_state.md R20). -/
abbrev Byte := BitVec 8

/-- A bus address or a value of PC (20_memory.md R60, 10_state.md R22). -/
abbrev Addr := BitVec 16

end Sys2Proof
end

