-- ==== Sys2Proof/Machine/Bits.lean ====
section
/-! DEFINITION. The bit fields, byte orders and additions of 00_scope.md R9 and R11, and the addresses of 20_memory.md
that the ISA fixes. -/

namespace Sys2Proof.Machine

/-- `lo(w) = w[7:0]` (00_scope.md R9). -/
def loByte (w : Addr) : Byte := w.extractLsb' 0 8

/-- `hi(w) = w[15:8]` (00_scope.md R9). -/
def hiByte (w : Addr) : Byte := w.extractLsb' 8 8

/-- `h:l`, the address with high byte `h` and low byte `l` (00_scope.md R9). -/
def mkAddr (h l : Byte) : Addr := h ++ l

/-- `$00:l`, an address in the zero page (20_memory.md R61). -/
def zeroPageAddr (l : Byte) : Addr := mkAddr 0x00 l

/-- `$0100 + s`, the address the stack pointer designates (10_state.md R23). -/
def stackAddr (s : Byte) : Addr := mkAddr 0x01 s

/-- 8-bit addition: the carry into the high byte is ignored (00_scope.md R11). -/
def add8 (a b : Byte) : Byte := a + b

/-- 16-bit addition of an unsigned byte, modulo 65536 (00_scope.md R11, 92 D1). -/
def add16 (w : Addr) (b : Byte) : Addr := w + b.setWidth 16

/-- Sign-extended addition, modulo 65536 (00_scope.md R11, 92 D1). -/
def addSx (w : Addr) (b : Byte) : Addr := w + b.signExtend 16

/-- Page cross of an indexed address: the low byte of the base plus the index passes $FF (40_addressing_modes.md R123). -/
def indexCrosses (base : Addr) (index : Byte) : Bool := decide (255 < (loByte base).toNat + index.toNat)

/-- Page cross of a branch: the target's high byte differs from that of the next instruction's address
(40_addressing_modes.md R123). -/
def branchCrosses (next target : Addr) : Bool := hiByte target != hiByte next

end Sys2Proof.Machine
end

