-- ==== Sys2Proof/Config.lean ====
section
/-! DEFINITION. What the spec leaves to the platform or leaves open (00_scope.md R4, 92_eei_decisions.md).
A fixed parameter is a plain definition; an open value is an opaque constant, of which nothing can be proved.
Every open value is drawn at a clock number, so that two draws are independent. -/

namespace Sys2Proof.Config

/-- `BRK_MASKED_BY_I` (00_scope.md R4, 45_jump_interrupt.md R181, conflict C10): the source fixes it `true`. Log 11. -/
def brkMaskedByI : Bool := true

/-- What a byte of memory reads as that nothing lists (92 D2). DESIGN CHOICE, unsafe, log 4. -/
def unlistedByte : Byte := 0#8

/-- The values that a RESET sequence leaves and the spec does not give (10_state.md R40; 92 D3, D4, D16, D22).
P.D is not among them: RESET keeps it (10_state.md R31). -/
structure ResetDraw where
  a : Byte
  x : Byte
  y : Byte
  sp : Byte
  n : Bool
  v : Bool
  b : Bool
  z : Bool
  c : Bool
  nmiPending : Bool
deriving DecidableEq, Repr, Inhabited

/-- `ResetDraw`, drawn at the clock number at which the RESET sequence starts. Free value, safe, log 9. -/
opaque resetDraw : Nat → ResetDraw

/-- `GarbageByte` (20_memory.md R67, 92 D12), the byte of the dummy write made at a clock number. Free value, safe, log 8. -/
opaque garbageByte : Nat → Byte

/-- The byte a device answers to the read made at a clock number and an address (20_memory.md R74, 92 D2, D13).
Free value, safe, log 6. -/
opaque deviceRead : Nat → Addr → Byte

/-- The addresses a BRK that is ignored reads after its opcode fetch, if it makes any access (92 D8, 93 U3), drawn at
the clock number of the opcode fetch. Free value, log 10. -/
opaque ignoredBrkReads : Nat → List Addr

end Sys2Proof.Config
end

