-- ==== Sys2Proof/Syntax.lean ====
section
/-! DEFINITION. The instructions as syntax: one constructor for each of the 151 rows of the opcode table
(30_encoding.md R96), its operand bytes in memory order (30_encoding.md R90, R92). -/

namespace Sys2Proof

/-- The 56 mnemonics (30_encoding.md R94). -/
inductive Mnemonic where
  | ADC | SBC | AND | ORA | EOR | ASL | LSR | ROL
  | ROR | BCC | BCS | BEQ | BNE | BVC | BVS | BPL
  | BMI | BIT | JMP | JSR | RTS | BRK | RTI | CMP
  | CPX | CPY | INC | DEC | INX | DEX | INY | DEY
  | CLC | SEC | CLI | SEI | CLD | SED | CLV | LDA
  | LDX | LDY | STA | STX | STY | TAX | TXA | TAY
  | TYA | TXS | TSX | PHA | PLA | PHP | PLP | NOP
deriving DecidableEq, Repr

/-- The 13 addressing modes (40_addressing_modes.md R110). -/
inductive Mode where
  | implied | accumulator | immediate | zeroPage | zeroPageX | zeroPageY | absolute
  | absoluteX | absoluteY | indirect | indirectX | indirectY | relative
deriving DecidableEq, Repr

/-- The length in bytes of an instruction of a mode (30_encoding.md R91). -/
def Mode.length : Mode → Nat
  | .implied | .accumulator => 1
  | .immediate | .zeroPage | .zeroPageX | .zeroPageY | .relative | .indirectX | .indirectY => 2
  | .absolute | .absoluteX | .absoluteY | .indirect => 3

/-- The instructions. `data` is an immediate datum, `lo` a low address byte, `hi` a high address byte, `off` a branch
offset (30_encoding.md R90). -/
inductive Instr where
  /-- `ADC #$44`, Immediate, opcode $69. -/
  | adcImm (data : Byte)
  /-- `ADC $44`, Zero Page, opcode $65. -/
  | adcZp (lo : Byte)
  /-- `ADC $44,X`, Zero Page,X, opcode $75. -/
  | adcZpX (lo : Byte)
  /-- `ADC $4400`, Absolute, opcode $6D. -/
  | adcAbs (lo hi : Byte)
  /-- `ADC $4400,X`, Absolute,X, opcode $7D. -/
  | adcAbsX (lo hi : Byte)
  /-- `ADC $4400,Y`, Absolute,Y, opcode $79. -/
  | adcAbsY (lo hi : Byte)
  /-- `ADC ($44,X)`, Indirect,X, opcode $61. -/
  | adcIndX (lo : Byte)
  /-- `ADC ($44),Y`, Indirect,Y, opcode $71. -/
  | adcIndY (lo : Byte)
  /-- `SBC #$44`, Immediate, opcode $E9. -/
  | sbcImm (data : Byte)
  /-- `SBC $44`, Zero Page, opcode $E5. -/
  | sbcZp (lo : Byte)
  /-- `SBC $44,X`, Zero Page,X, opcode $F5. -/
  | sbcZpX (lo : Byte)
  /-- `SBC $4400`, Absolute, opcode $ED. -/
  | sbcAbs (lo hi : Byte)
  /-- `SBC $4400,X`, Absolute,X, opcode $FD. -/
  | sbcAbsX (lo hi : Byte)
  /-- `SBC $4400,Y`, Absolute,Y, opcode $F9. -/
  | sbcAbsY (lo hi : Byte)
  /-- `SBC ($44,X)`, Indirect,X, opcode $E1. -/
  | sbcIndX (lo : Byte)
  /-- `SBC ($44),Y`, Indirect,Y, opcode $F1. -/
  | sbcIndY (lo : Byte)
  /-- `AND #$44`, Immediate, opcode $29. -/
  | andImm (data : Byte)
  /-- `AND $44`, Zero Page, opcode $25. -/
  | andZp (lo : Byte)
  /-- `AND $44,X`, Zero Page,X, opcode $35. -/
  | andZpX (lo : Byte)
  /-- `AND $4400`, Absolute, opcode $2D. -/
  | andAbs (lo hi : Byte)
  /-- `AND $4400,X`, Absolute,X, opcode $3D. -/
  | andAbsX (lo hi : Byte)
  /-- `AND $4400,Y`, Absolute,Y, opcode $39. -/
  | andAbsY (lo hi : Byte)
  /-- `AND ($44,X)`, Indirect,X, opcode $21. -/
  | andIndX (lo : Byte)
  /-- `AND ($44),Y`, Indirect,Y, opcode $31. -/
  | andIndY (lo : Byte)
  /-- `ORA #$44`, Immediate, opcode $09. -/
  | oraImm (data : Byte)
  /-- `ORA $44`, Zero Page, opcode $05. -/
  | oraZp (lo : Byte)
  /-- `ORA $44,X`, Zero Page,X, opcode $15. -/
  | oraZpX (lo : Byte)
  /-- `ORA $4400`, Absolute, opcode $0D. -/
  | oraAbs (lo hi : Byte)
  /-- `ORA $4400,X`, Absolute,X, opcode $1D. -/
  | oraAbsX (lo hi : Byte)
  /-- `ORA $4400,Y`, Absolute,Y, opcode $19. -/
  | oraAbsY (lo hi : Byte)
  /-- `ORA ($44,X)`, Indirect,X, opcode $01. -/
  | oraIndX (lo : Byte)
  /-- `ORA ($44),Y`, Indirect,Y, opcode $11. -/
  | oraIndY (lo : Byte)
  /-- `EOR #$44`, Immediate, opcode $49. -/
  | eorImm (data : Byte)
  /-- `EOR $44`, Zero Page, opcode $45. -/
  | eorZp (lo : Byte)
  /-- `EOR $44,X`, Zero Page,X, opcode $55. -/
  | eorZpX (lo : Byte)
  /-- `EOR $4400`, Absolute, opcode $4D. -/
  | eorAbs (lo hi : Byte)
  /-- `EOR $4400,X`, Absolute,X, opcode $5D. -/
  | eorAbsX (lo hi : Byte)
  /-- `EOR $4400,Y`, Absolute,Y, opcode $59. -/
  | eorAbsY (lo hi : Byte)
  /-- `EOR ($44,X)`, Indirect,X, opcode $41. -/
  | eorIndX (lo : Byte)
  /-- `EOR ($44),Y`, Indirect,Y, opcode $51. -/
  | eorIndY (lo : Byte)
  /-- `ASL A`, Accumulator, opcode $0A. -/
  | aslA
  /-- `ASL $44`, Zero Page, opcode $06. -/
  | aslZp (lo : Byte)
  /-- `ASL $44,X`, Zero Page,X, opcode $16. -/
  | aslZpX (lo : Byte)
  /-- `ASL $4400`, Absolute, opcode $0E. -/
  | aslAbs (lo hi : Byte)
  /-- `ASL $4400,X`, Absolute,X, opcode $1E. -/
  | aslAbsX (lo hi : Byte)
  /-- `LSR A`, Accumulator, opcode $4A. -/
  | lsrA
  /-- `LSR $44`, Zero Page, opcode $46. -/
  | lsrZp (lo : Byte)
  /-- `LSR $44,X`, Zero Page,X, opcode $56. -/
  | lsrZpX (lo : Byte)
  /-- `LSR $4400`, Absolute, opcode $4E. -/
  | lsrAbs (lo hi : Byte)
  /-- `LSR $4400,X`, Absolute,X, opcode $5E. -/
  | lsrAbsX (lo hi : Byte)
  /-- `ROL A`, Accumulator, opcode $2A. -/
  | rolA
  /-- `ROL $44`, Zero Page, opcode $26. -/
  | rolZp (lo : Byte)
  /-- `ROL $44,X`, Zero Page,X, opcode $36. -/
  | rolZpX (lo : Byte)
  /-- `ROL $4400`, Absolute, opcode $2E. -/
  | rolAbs (lo hi : Byte)
  /-- `ROL $4400,X`, Absolute,X, opcode $3E. -/
  | rolAbsX (lo hi : Byte)
  /-- `ROR A`, Accumulator, opcode $6A. -/
  | rorA
  /-- `ROR $44`, Zero Page, opcode $66. -/
  | rorZp (lo : Byte)
  /-- `ROR $44,X`, Zero Page,X, opcode $76. -/
  | rorZpX (lo : Byte)
  /-- `ROR $4400`, Absolute, opcode $6E. -/
  | rorAbs (lo hi : Byte)
  /-- `ROR $4400,X`, Absolute,X, opcode $7E. -/
  | rorAbsX (lo hi : Byte)
  /-- `BCC $44`, Relative, opcode $90. -/
  | bcc (off : Byte)
  /-- `BCS $44`, Relative, opcode $B0. -/
  | bcs (off : Byte)
  /-- `BEQ $44`, Relative, opcode $F0. -/
  | beq (off : Byte)
  /-- `BNE $44`, Relative, opcode $D0. -/
  | bne (off : Byte)
  /-- `BVC $44`, Relative, opcode $50. -/
  | bvc (off : Byte)
  /-- `BVS $44`, Relative, opcode $70. -/
  | bvs (off : Byte)
  /-- `BPL $44`, Relative, opcode $10. -/
  | bpl (off : Byte)
  /-- `BMI $44`, Relative, opcode $30. -/
  | bmi (off : Byte)
  /-- `BIT $44`, Zero Page, opcode $24. -/
  | bitZp (lo : Byte)
  /-- `BIT $4400`, Absolute, opcode $2C. -/
  | bitAbs (lo hi : Byte)
  /-- `JMP $5597`, Absolute, opcode $4C. -/
  | jmpAbs (lo hi : Byte)
  /-- `JMP ($5597)`, Indirect, opcode $6C. -/
  | jmpInd (lo hi : Byte)
  /-- `JSR $5597`, Absolute, opcode $20. -/
  | jsr (lo hi : Byte)
  /-- `RTS`, Implied, opcode $60. -/
  | rts
  /-- `BRK`, Implied, opcode $00. -/
  | brk
  /-- `RTI`, Implied, opcode $40. -/
  | rti
  /-- `CMP #$44`, Immediate, opcode $C9. -/
  | cmpImm (data : Byte)
  /-- `CMP $44`, Zero Page, opcode $C5. -/
  | cmpZp (lo : Byte)
  /-- `CMP $44,X`, Zero Page,X, opcode $D5. -/
  | cmpZpX (lo : Byte)
  /-- `CMP $4400`, Absolute, opcode $CD. -/
  | cmpAbs (lo hi : Byte)
  /-- `CMP $4400,X`, Absolute,X, opcode $DD. -/
  | cmpAbsX (lo hi : Byte)
  /-- `CMP $4400,Y`, Absolute,Y, opcode $D9. -/
  | cmpAbsY (lo hi : Byte)
  /-- `CMP ($44,X)`, Indirect,X, opcode $C1. -/
  | cmpIndX (lo : Byte)
  /-- `CMP ($44),Y`, Indirect,Y, opcode $D1. -/
  | cmpIndY (lo : Byte)
  /-- `CPX #$44`, Immediate, opcode $E0. -/
  | cpxImm (data : Byte)
  /-- `CPX $44`, Zero Page, opcode $E4. -/
  | cpxZp (lo : Byte)
  /-- `CPX $4400`, Absolute, opcode $EC. -/
  | cpxAbs (lo hi : Byte)
  /-- `CPY #$44`, Immediate, opcode $C0. -/
  | cpyImm (data : Byte)
  /-- `CPY $44`, Zero Page, opcode $C4. -/
  | cpyZp (lo : Byte)
  /-- `CPY $4400`, Absolute, opcode $CC. -/
  | cpyAbs (lo hi : Byte)
  /-- `INC $44`, Zero Page, opcode $E6. -/
  | incZp (lo : Byte)
  /-- `INC $44,X`, Zero Page,X, opcode $F6. -/
  | incZpX (lo : Byte)
  /-- `INC $4400`, Absolute, opcode $EE. -/
  | incAbs (lo hi : Byte)
  /-- `INC $4400,X`, Absolute,X, opcode $FE. -/
  | incAbsX (lo hi : Byte)
  /-- `DEC $44`, Zero Page, opcode $C6. -/
  | decZp (lo : Byte)
  /-- `DEC $44,X`, Zero Page,X, opcode $D6. -/
  | decZpX (lo : Byte)
  /-- `DEC $4400`, Absolute, opcode $CE. -/
  | decAbs (lo hi : Byte)
  /-- `DEC $4400,X`, Absolute,X, opcode $DE. -/
  | decAbsX (lo hi : Byte)
  /-- `INX`, Implied, opcode $E8. -/
  | inx
  /-- `DEX`, Implied, opcode $CA. -/
  | dex
  /-- `INY`, Implied, opcode $C8. -/
  | iny
  /-- `DEY`, Implied, opcode $88. -/
  | dey
  /-- `CLC`, Implied, opcode $18. -/
  | clc
  /-- `SEC`, Implied, opcode $38. -/
  | sec
  /-- `CLI`, Implied, opcode $58. -/
  | cli
  /-- `SEI`, Implied, opcode $78. -/
  | sei
  /-- `CLD`, Implied, opcode $D8. -/
  | cld
  /-- `SED`, Implied, opcode $F8. -/
  | sed
  /-- `CLV`, Implied, opcode $B8. -/
  | clv
  /-- `LDA #$44`, Immediate, opcode $A9. -/
  | ldaImm (data : Byte)
  /-- `LDA $44`, Zero Page, opcode $A5. -/
  | ldaZp (lo : Byte)
  /-- `LDA $44,X`, Zero Page,X, opcode $B5. -/
  | ldaZpX (lo : Byte)
  /-- `LDA $4400`, Absolute, opcode $AD. -/
  | ldaAbs (lo hi : Byte)
  /-- `LDA $4400,X`, Absolute,X, opcode $BD. -/
  | ldaAbsX (lo hi : Byte)
  /-- `LDA $4400,Y`, Absolute,Y, opcode $B9. -/
  | ldaAbsY (lo hi : Byte)
  /-- `LDA ($44,X)`, Indirect,X, opcode $A1. -/
  | ldaIndX (lo : Byte)
  /-- `LDA ($44),Y`, Indirect,Y, opcode $B1. -/
  | ldaIndY (lo : Byte)
  /-- `LDX #$44`, Immediate, opcode $A2. -/
  | ldxImm (data : Byte)
  /-- `LDX $44`, Zero Page, opcode $A6. -/
  | ldxZp (lo : Byte)
  /-- `LDX $44,Y`, Zero Page,Y, opcode $B6. -/
  | ldxZpY (lo : Byte)
  /-- `LDX $4400`, Absolute, opcode $AE. -/
  | ldxAbs (lo hi : Byte)
  /-- `LDX $4400,Y`, Absolute,Y, opcode $BE. -/
  | ldxAbsY (lo hi : Byte)
  /-- `LDY #$44`, Immediate, opcode $A0. -/
  | ldyImm (data : Byte)
  /-- `LDY $44`, Zero Page, opcode $A4. -/
  | ldyZp (lo : Byte)
  /-- `LDY $44,X`, Zero Page,X, opcode $B4. -/
  | ldyZpX (lo : Byte)
  /-- `LDY $4400`, Absolute, opcode $AC. -/
  | ldyAbs (lo hi : Byte)
  /-- `LDY $4400,X`, Absolute,X, opcode $BC. -/
  | ldyAbsX (lo hi : Byte)
  /-- `STA $44`, Zero Page, opcode $85. -/
  | staZp (lo : Byte)
  /-- `STA $44,X`, Zero Page,X, opcode $95. -/
  | staZpX (lo : Byte)
  /-- `STA $4400`, Absolute, opcode $8D. -/
  | staAbs (lo hi : Byte)
  /-- `STA $4400,X`, Absolute,X, opcode $9D. -/
  | staAbsX (lo hi : Byte)
  /-- `STA $4400,Y`, Absolute,Y, opcode $99. -/
  | staAbsY (lo hi : Byte)
  /-- `STA ($44,X)`, Indirect,X, opcode $81. -/
  | staIndX (lo : Byte)
  /-- `STA ($44),Y`, Indirect,Y, opcode $91. -/
  | staIndY (lo : Byte)
  /-- `STX $44`, Zero Page, opcode $86. -/
  | stxZp (lo : Byte)
  /-- `STX $44,Y`, Zero Page,Y, opcode $96. -/
  | stxZpY (lo : Byte)
  /-- `STX $4400`, Absolute, opcode $8E. -/
  | stxAbs (lo hi : Byte)
  /-- `STY $44`, Zero Page, opcode $84. -/
  | styZp (lo : Byte)
  /-- `STY $44,X`, Zero Page,X, opcode $94. -/
  | styZpX (lo : Byte)
  /-- `STY $4400`, Absolute, opcode $8C. -/
  | styAbs (lo hi : Byte)
  /-- `TAX`, Implied, opcode $AA. -/
  | tax
  /-- `TXA`, Implied, opcode $8A. -/
  | txa
  /-- `TAY`, Implied, opcode $A8. -/
  | tay
  /-- `TYA`, Implied, opcode $98. -/
  | tya
  /-- `TXS`, Implied, opcode $9A. -/
  | txs
  /-- `TSX`, Implied, opcode $BA. -/
  | tsx
  /-- `PHA`, Implied, opcode $48. -/
  | pha
  /-- `PLA`, Implied, opcode $68. -/
  | pla
  /-- `PHP`, Implied, opcode $08. -/
  | php
  /-- `PLP`, Implied, opcode $28. -/
  | plp
  /-- `NOP`, Implied, opcode $EA. -/
  | nop
deriving DecidableEq, Repr

/-- The mnemonic of an instruction (30_encoding.md R94, the row). -/
def Instr.mnemonic : Instr → Mnemonic
  | .adcImm .. | .adcZp .. | .adcZpX .. | .adcAbs .. | .adcAbsX .. | .adcAbsY .. | .adcIndX .. | .adcIndY .. => .ADC
  | .sbcImm .. | .sbcZp .. | .sbcZpX .. | .sbcAbs .. | .sbcAbsX .. | .sbcAbsY .. | .sbcIndX .. | .sbcIndY .. => .SBC
  | .andImm .. | .andZp .. | .andZpX .. | .andAbs .. | .andAbsX .. | .andAbsY .. | .andIndX .. | .andIndY .. => .AND
  | .oraImm .. | .oraZp .. | .oraZpX .. | .oraAbs .. | .oraAbsX .. | .oraAbsY .. | .oraIndX .. | .oraIndY .. => .ORA
  | .eorImm .. | .eorZp .. | .eorZpX .. | .eorAbs .. | .eorAbsX .. | .eorAbsY .. | .eorIndX .. | .eorIndY .. => .EOR
  | .aslA | .aslZp .. | .aslZpX .. | .aslAbs .. | .aslAbsX .. => .ASL
  | .lsrA | .lsrZp .. | .lsrZpX .. | .lsrAbs .. | .lsrAbsX .. => .LSR
  | .rolA | .rolZp .. | .rolZpX .. | .rolAbs .. | .rolAbsX .. => .ROL
  | .rorA | .rorZp .. | .rorZpX .. | .rorAbs .. | .rorAbsX .. => .ROR
  | .bcc .. => .BCC
  | .bcs .. => .BCS
  | .beq .. => .BEQ
  | .bne .. => .BNE
  | .bvc .. => .BVC
  | .bvs .. => .BVS
  | .bpl .. => .BPL
  | .bmi .. => .BMI
  | .bitZp .. | .bitAbs .. => .BIT
  | .jmpAbs .. | .jmpInd .. => .JMP
  | .jsr .. => .JSR
  | .rts => .RTS
  | .brk => .BRK
  | .rti => .RTI
  | .cmpImm .. | .cmpZp .. | .cmpZpX .. | .cmpAbs .. | .cmpAbsX .. | .cmpAbsY .. | .cmpIndX .. | .cmpIndY .. => .CMP
  | .cpxImm .. | .cpxZp .. | .cpxAbs .. => .CPX
  | .cpyImm .. | .cpyZp .. | .cpyAbs .. => .CPY
  | .incZp .. | .incZpX .. | .incAbs .. | .incAbsX .. => .INC
  | .decZp .. | .decZpX .. | .decAbs .. | .decAbsX .. => .DEC
  | .inx => .INX
  | .dex => .DEX
  | .iny => .INY
  | .dey => .DEY
  | .clc => .CLC
  | .sec => .SEC
  | .cli => .CLI
  | .sei => .SEI
  | .cld => .CLD
  | .sed => .SED
  | .clv => .CLV
  | .ldaImm .. | .ldaZp .. | .ldaZpX .. | .ldaAbs .. | .ldaAbsX .. | .ldaAbsY .. | .ldaIndX .. | .ldaIndY .. => .LDA
  | .ldxImm .. | .ldxZp .. | .ldxZpY .. | .ldxAbs .. | .ldxAbsY .. => .LDX
  | .ldyImm .. | .ldyZp .. | .ldyZpX .. | .ldyAbs .. | .ldyAbsX .. => .LDY
  | .staZp .. | .staZpX .. | .staAbs .. | .staAbsX .. | .staAbsY .. | .staIndX .. | .staIndY .. => .STA
  | .stxZp .. | .stxZpY .. | .stxAbs .. => .STX
  | .styZp .. | .styZpX .. | .styAbs .. => .STY
  | .tax => .TAX
  | .txa => .TXA
  | .tay => .TAY
  | .tya => .TYA
  | .txs => .TXS
  | .tsx => .TSX
  | .pha => .PHA
  | .pla => .PLA
  | .php => .PHP
  | .plp => .PLP
  | .nop => .NOP

/-- The addressing mode of an instruction (30_encoding.md R94, the column). -/
def Instr.mode : Instr → Mode
  | .rts | .brk | .rti | .inx | .dex | .iny | .dey | .clc | .sec | .cli | .sei | .cld | .sed | .clv | .tax | .txa
  | .tay | .tya | .txs | .tsx | .pha | .pla | .php | .plp | .nop => .implied
  | .aslA | .lsrA | .rolA | .rorA => .accumulator
  | .adcImm .. | .sbcImm .. | .andImm .. | .oraImm .. | .eorImm .. | .cmpImm .. | .cpxImm .. | .cpyImm ..
  | .ldaImm .. | .ldxImm .. | .ldyImm .. => .immediate
  | .adcZp .. | .sbcZp .. | .andZp .. | .oraZp .. | .eorZp .. | .aslZp .. | .lsrZp .. | .rolZp .. | .rorZp ..
  | .bitZp .. | .cmpZp .. | .cpxZp .. | .cpyZp .. | .incZp .. | .decZp .. | .ldaZp .. | .ldxZp .. | .ldyZp ..
  | .staZp .. | .stxZp .. | .styZp .. => .zeroPage
  | .adcZpX .. | .sbcZpX .. | .andZpX .. | .oraZpX .. | .eorZpX .. | .aslZpX .. | .lsrZpX .. | .rolZpX ..
  | .rorZpX .. | .cmpZpX .. | .incZpX .. | .decZpX .. | .ldaZpX .. | .ldyZpX .. | .staZpX .. | .styZpX .. => .zeroPageX
  | .ldxZpY .. | .stxZpY .. => .zeroPageY
  | .adcAbs .. | .sbcAbs .. | .andAbs .. | .oraAbs .. | .eorAbs .. | .aslAbs .. | .lsrAbs .. | .rolAbs ..
  | .rorAbs .. | .bitAbs .. | .jmpAbs .. | .jsr .. | .cmpAbs .. | .cpxAbs .. | .cpyAbs .. | .incAbs .. | .decAbs ..
  | .ldaAbs .. | .ldxAbs .. | .ldyAbs .. | .staAbs .. | .stxAbs .. | .styAbs .. => .absolute
  | .adcAbsX .. | .sbcAbsX .. | .andAbsX .. | .oraAbsX .. | .eorAbsX .. | .aslAbsX .. | .lsrAbsX .. | .rolAbsX ..
  | .rorAbsX .. | .cmpAbsX .. | .incAbsX .. | .decAbsX .. | .ldaAbsX .. | .ldyAbsX .. | .staAbsX .. => .absoluteX
  | .adcAbsY .. | .sbcAbsY .. | .andAbsY .. | .oraAbsY .. | .eorAbsY .. | .cmpAbsY .. | .ldaAbsY .. | .ldxAbsY ..
  | .staAbsY .. => .absoluteY
  | .jmpInd .. => .indirect
  | .adcIndX .. | .sbcIndX .. | .andIndX .. | .oraIndX .. | .eorIndX .. | .cmpIndX .. | .ldaIndX .. | .staIndX .. => .indirectX
  | .adcIndY .. | .sbcIndY .. | .andIndY .. | .oraIndY .. | .eorIndY .. | .cmpIndY .. | .ldaIndY .. | .staIndY .. => .indirectY
  | .bcc .. | .bcs .. | .beq .. | .bne .. | .bvc .. | .bvs .. | .bpl .. | .bmi .. => .relative

/-- The operand bytes of an instruction, in memory order (30_encoding.md R90). -/
def Instr.operands : Instr → List Byte
  | .aslA | .lsrA | .rolA | .rorA | .rts | .brk | .rti | .inx | .dex | .iny | .dey | .clc | .sec | .cli | .sei
  | .cld | .sed | .clv | .tax | .txa | .tay | .tya | .txs | .tsx | .pha | .pla | .php | .plp | .nop => []
  | .adcImm b1 | .adcZp b1 | .adcZpX b1 | .adcIndX b1 | .adcIndY b1 | .sbcImm b1 | .sbcZp b1 | .sbcZpX b1
  | .sbcIndX b1 | .sbcIndY b1 | .andImm b1 | .andZp b1 | .andZpX b1 | .andIndX b1 | .andIndY b1 | .oraImm b1
  | .oraZp b1 | .oraZpX b1 | .oraIndX b1 | .oraIndY b1 | .eorImm b1 | .eorZp b1 | .eorZpX b1 | .eorIndX b1
  | .eorIndY b1 | .aslZp b1 | .aslZpX b1 | .lsrZp b1 | .lsrZpX b1 | .rolZp b1 | .rolZpX b1 | .rorZp b1 | .rorZpX b1
  | .bcc b1 | .bcs b1 | .beq b1 | .bne b1 | .bvc b1 | .bvs b1 | .bpl b1 | .bmi b1 | .bitZp b1 | .cmpImm b1
  | .cmpZp b1 | .cmpZpX b1 | .cmpIndX b1 | .cmpIndY b1 | .cpxImm b1 | .cpxZp b1 | .cpyImm b1 | .cpyZp b1
  | .incZp b1 | .incZpX b1 | .decZp b1 | .decZpX b1 | .ldaImm b1 | .ldaZp b1 | .ldaZpX b1 | .ldaIndX b1
  | .ldaIndY b1 | .ldxImm b1 | .ldxZp b1 | .ldxZpY b1 | .ldyImm b1 | .ldyZp b1 | .ldyZpX b1 | .staZp b1
  | .staZpX b1 | .staIndX b1 | .staIndY b1 | .stxZp b1 | .stxZpY b1 | .styZp b1 | .styZpX b1 => [b1]
  | .adcAbs b1 b2 | .adcAbsX b1 b2 | .adcAbsY b1 b2 | .sbcAbs b1 b2 | .sbcAbsX b1 b2 | .sbcAbsY b1 b2
  | .andAbs b1 b2 | .andAbsX b1 b2 | .andAbsY b1 b2 | .oraAbs b1 b2 | .oraAbsX b1 b2 | .oraAbsY b1 b2
  | .eorAbs b1 b2 | .eorAbsX b1 b2 | .eorAbsY b1 b2 | .aslAbs b1 b2 | .aslAbsX b1 b2 | .lsrAbs b1 b2
  | .lsrAbsX b1 b2 | .rolAbs b1 b2 | .rolAbsX b1 b2 | .rorAbs b1 b2 | .rorAbsX b1 b2 | .bitAbs b1 b2
  | .jmpAbs b1 b2 | .jmpInd b1 b2 | .jsr b1 b2 | .cmpAbs b1 b2 | .cmpAbsX b1 b2 | .cmpAbsY b1 b2 | .cpxAbs b1 b2
  | .cpyAbs b1 b2 | .incAbs b1 b2 | .incAbsX b1 b2 | .decAbs b1 b2 | .decAbsX b1 b2 | .ldaAbs b1 b2
  | .ldaAbsX b1 b2 | .ldaAbsY b1 b2 | .ldxAbs b1 b2 | .ldxAbsY b1 b2 | .ldyAbs b1 b2 | .ldyAbsX b1 b2
  | .staAbs b1 b2 | .staAbsX b1 b2 | .staAbsY b1 b2 | .stxAbs b1 b2 | .styAbs b1 b2 => [b1, b2]

/-- The length of an instruction in bytes (30_encoding.md R91). -/
def Instr.length (i : Instr) : Nat := i.mode.length

/-- A memory operand: a mode that forms an effective address, with its operand bytes (40_addressing_modes.md R113 to
R116, R119, R120). -/
inductive MemOperand where
  | zeroPage (lo : Byte)
  | zeroPageX (lo : Byte)
  | zeroPageY (lo : Byte)
  | absolute (lo hi : Byte)
  | absoluteX (lo hi : Byte)
  | absoluteY (lo hi : Byte)
  | indirectX (lo : Byte)
  | indirectY (lo : Byte)
deriving DecidableEq, Repr

/-- The operand of an instruction that reads a datum (40_addressing_modes.md R122). -/
inductive ReadOperand where
  | immediate (data : Byte)
  | memory (m : MemOperand)
deriving DecidableEq, Repr

/-- The memory operand that a mode makes of its operand bytes (30_encoding.md R92). -/
def MemOperand.ofMode : Mode → List Byte → Option MemOperand
  | .zeroPage, [lo] => some (.zeroPage lo)
  | .zeroPageX, [lo] => some (.zeroPageX lo)
  | .zeroPageY, [lo] => some (.zeroPageY lo)
  | .absolute, [lo, hi] => some (.absolute lo hi)
  | .absoluteX, [lo, hi] => some (.absoluteX lo hi)
  | .absoluteY, [lo, hi] => some (.absoluteY lo hi)
  | .indirectX, [lo] => some (.indirectX lo)
  | .indirectY, [lo] => some (.indirectY lo)
  | _, _ => none

/-- The memory operand of an instruction by its row's mode, if the mode forms an effective address. -/
def Instr.memOperand? (i : Instr) : Option MemOperand := MemOperand.ofMode i.mode i.operands

/-- The datum operand of an instruction by its row's mode, if the mode delivers one. -/
def Instr.readOperand? (i : Instr) : Option ReadOperand :=
  match i.mode, i.operands with
  | .immediate, [d] => some (.immediate d)
  | _, _ => i.memOperand?.map .memory

end Sys2Proof
end

