-- ==== Sys2Proof/WellFormed.lean ====
section
/-! DEFINITION. When an instruction written as mnemonic, mode and operand bytes is one of the 151 documented forms
(30_encoding.md R91, R94). Every term of `Instr` is (30_encoding.md R99: no operand value is reserved). -/

namespace Sys2Proof

/-- The modes that the matrix of 30_encoding.md R94 gives a mnemonic. -/
def Mnemonic.modes : Mnemonic → List Mode
  | .ADC | .SBC | .AND | .ORA | .EOR | .CMP | .LDA => [.immediate, .zeroPage, .zeroPageX, .absolute, .absoluteX, .absoluteY, .indirectX, .indirectY]
  | .ASL | .LSR | .ROL | .ROR => [.accumulator, .zeroPage, .zeroPageX, .absolute, .absoluteX]
  | .BCC | .BCS | .BEQ | .BNE | .BVC | .BVS | .BPL | .BMI => [.relative]
  | .BIT => [.zeroPage, .absolute]
  | .JMP => [.absolute, .indirect]
  | .JSR => [.absolute]
  | .RTS | .BRK | .RTI | .INX | .DEX | .INY | .DEY | .CLC | .SEC | .CLI | .SEI | .CLD | .SED | .CLV | .TAX | .TXA
  | .TAY | .TYA | .TXS | .TSX | .PHA | .PLA | .PHP | .PLP | .NOP => [.implied]
  | .CPX | .CPY => [.immediate, .zeroPage, .absolute]
  | .INC | .DEC => [.zeroPage, .zeroPageX, .absolute, .absoluteX]
  | .LDX => [.immediate, .zeroPage, .zeroPageY, .absolute, .absoluteY]
  | .LDY => [.immediate, .zeroPage, .zeroPageX, .absolute, .absoluteX]
  | .STA => [.zeroPage, .zeroPageX, .absolute, .absoluteX, .absoluteY, .indirectX, .indirectY]
  | .STX => [.zeroPage, .zeroPageY, .absolute]
  | .STY => [.zeroPage, .zeroPageX, .absolute]

/-- An instruction as an assembler line names it: not yet checked to be a documented form. -/
structure RawInstr where
  mnemonic : Mnemonic
  mode : Mode
  operands : List Byte
deriving DecidableEq, Repr

/-- Does the mnemonic exist with this mode (30_encoding.md R94)? -/
def RawInstr.modeExists (r : RawInstr) : Bool := r.mnemonic.modes.contains r.mode

/-- Are there as many operand bytes as the mode's length says (30_encoding.md R91)? -/
def RawInstr.lengthOk (r : RawInstr) : Bool := r.operands.length + 1 == r.mode.length

/-- A raw instruction is well formed: both checks hold. -/
def RawInstr.wf (r : RawInstr) : Bool := r.modeExists && r.lengthOk

/-- The raw form of an instruction. -/
def Instr.raw (i : Instr) : RawInstr := ⟨i.mnemonic, i.mode, i.operands⟩

/-- An instruction is well formed when its raw form is. -/
def Instr.wf (i : Instr) : Bool := i.raw.wf

end Sys2Proof
end

