-- ==== Sys2Proof/Decode.lean ====
section
/-! DEFINITION. The opcode table (30_encoding.md R96) as rows, the decoder that looks the whole opcode byte up in it
(R93), and after it the encoder. Both are total and structurally recursive. -/

namespace Sys2Proof

/-- How many operand bytes an opcode takes and what instruction it makes of them (30_encoding.md R90: formats F1, F2,
F3). -/
inductive Form where
  | f1 (i : Instr)
  | f2 (mk : Byte → Instr)
  | f3 (mk : Byte → Byte → Instr)

/-- The notes column of 30_encoding.md R96: which clocks may be added. -/
inductive ExtraClocks where
  | never | pageCross | branch
deriving DecidableEq, Repr

/-- One row of 30_encoding.md R96. -/
structure OpcodeRow where
  opcode : Byte
  mnemonic : Mnemonic
  mode : Mode
  len : Nat
  clk : Nat
  extra : ExtraClocks
  form : Form

/-- Rows of 30_encoding.md R96 whose semantics are in file 41. -/
def rowsArithmetic : List OpcodeRow := [
  ⟨0x69, .ADC, .immediate, 2, 2, .never, .f2 .adcImm⟩,
  ⟨0x65, .ADC, .zeroPage, 2, 3, .never, .f2 .adcZp⟩,
  ⟨0x75, .ADC, .zeroPageX, 2, 4, .never, .f2 .adcZpX⟩,
  ⟨0x6D, .ADC, .absolute, 3, 4, .never, .f3 .adcAbs⟩,
  ⟨0x7D, .ADC, .absoluteX, 3, 4, .pageCross, .f3 .adcAbsX⟩,
  ⟨0x79, .ADC, .absoluteY, 3, 4, .pageCross, .f3 .adcAbsY⟩,
  ⟨0x61, .ADC, .indirectX, 2, 6, .never, .f2 .adcIndX⟩,
  ⟨0x71, .ADC, .indirectY, 2, 5, .pageCross, .f2 .adcIndY⟩,
  ⟨0xE9, .SBC, .immediate, 2, 2, .never, .f2 .sbcImm⟩,
  ⟨0xE5, .SBC, .zeroPage, 2, 3, .never, .f2 .sbcZp⟩,
  ⟨0xF5, .SBC, .zeroPageX, 2, 4, .never, .f2 .sbcZpX⟩,
  ⟨0xED, .SBC, .absolute, 3, 4, .never, .f3 .sbcAbs⟩,
  ⟨0xFD, .SBC, .absoluteX, 3, 4, .pageCross, .f3 .sbcAbsX⟩,
  ⟨0xF9, .SBC, .absoluteY, 3, 4, .pageCross, .f3 .sbcAbsY⟩,
  ⟨0xE1, .SBC, .indirectX, 2, 6, .never, .f2 .sbcIndX⟩,
  ⟨0xF1, .SBC, .indirectY, 2, 5, .pageCross, .f2 .sbcIndY⟩]

/-- Rows of 30_encoding.md R96 whose semantics are in file 42. -/
def rowsLogical : List OpcodeRow := [
  ⟨0x29, .AND, .immediate, 2, 2, .never, .f2 .andImm⟩,
  ⟨0x25, .AND, .zeroPage, 2, 3, .never, .f2 .andZp⟩,
  ⟨0x35, .AND, .zeroPageX, 2, 4, .never, .f2 .andZpX⟩,
  ⟨0x2D, .AND, .absolute, 3, 4, .never, .f3 .andAbs⟩,
  ⟨0x3D, .AND, .absoluteX, 3, 4, .pageCross, .f3 .andAbsX⟩,
  ⟨0x39, .AND, .absoluteY, 3, 4, .pageCross, .f3 .andAbsY⟩,
  ⟨0x21, .AND, .indirectX, 2, 6, .never, .f2 .andIndX⟩,
  ⟨0x31, .AND, .indirectY, 2, 5, .pageCross, .f2 .andIndY⟩,
  ⟨0x09, .ORA, .immediate, 2, 2, .never, .f2 .oraImm⟩,
  ⟨0x05, .ORA, .zeroPage, 2, 3, .never, .f2 .oraZp⟩,
  ⟨0x15, .ORA, .zeroPageX, 2, 4, .never, .f2 .oraZpX⟩,
  ⟨0x0D, .ORA, .absolute, 3, 4, .never, .f3 .oraAbs⟩,
  ⟨0x1D, .ORA, .absoluteX, 3, 4, .pageCross, .f3 .oraAbsX⟩,
  ⟨0x19, .ORA, .absoluteY, 3, 4, .pageCross, .f3 .oraAbsY⟩,
  ⟨0x01, .ORA, .indirectX, 2, 6, .never, .f2 .oraIndX⟩,
  ⟨0x11, .ORA, .indirectY, 2, 5, .pageCross, .f2 .oraIndY⟩,
  ⟨0x49, .EOR, .immediate, 2, 2, .never, .f2 .eorImm⟩,
  ⟨0x45, .EOR, .zeroPage, 2, 3, .never, .f2 .eorZp⟩,
  ⟨0x55, .EOR, .zeroPageX, 2, 4, .never, .f2 .eorZpX⟩,
  ⟨0x4D, .EOR, .absolute, 3, 4, .never, .f3 .eorAbs⟩,
  ⟨0x5D, .EOR, .absoluteX, 3, 4, .pageCross, .f3 .eorAbsX⟩,
  ⟨0x59, .EOR, .absoluteY, 3, 4, .pageCross, .f3 .eorAbsY⟩,
  ⟨0x41, .EOR, .indirectX, 2, 6, .never, .f2 .eorIndX⟩,
  ⟨0x51, .EOR, .indirectY, 2, 5, .pageCross, .f2 .eorIndY⟩]

/-- Rows of 30_encoding.md R96 whose semantics are in file 43. -/
def rowsShift : List OpcodeRow := [
  ⟨0x0A, .ASL, .accumulator, 1, 2, .never, .f1 .aslA⟩,
  ⟨0x06, .ASL, .zeroPage, 2, 5, .never, .f2 .aslZp⟩,
  ⟨0x16, .ASL, .zeroPageX, 2, 6, .never, .f2 .aslZpX⟩,
  ⟨0x0E, .ASL, .absolute, 3, 6, .never, .f3 .aslAbs⟩,
  ⟨0x1E, .ASL, .absoluteX, 3, 6, .pageCross, .f3 .aslAbsX⟩,
  ⟨0x4A, .LSR, .accumulator, 1, 2, .never, .f1 .lsrA⟩,
  ⟨0x46, .LSR, .zeroPage, 2, 5, .never, .f2 .lsrZp⟩,
  ⟨0x56, .LSR, .zeroPageX, 2, 6, .never, .f2 .lsrZpX⟩,
  ⟨0x4E, .LSR, .absolute, 3, 6, .never, .f3 .lsrAbs⟩,
  ⟨0x5E, .LSR, .absoluteX, 3, 6, .pageCross, .f3 .lsrAbsX⟩,
  ⟨0x2A, .ROL, .accumulator, 1, 2, .never, .f1 .rolA⟩,
  ⟨0x26, .ROL, .zeroPage, 2, 5, .never, .f2 .rolZp⟩,
  ⟨0x36, .ROL, .zeroPageX, 2, 6, .never, .f2 .rolZpX⟩,
  ⟨0x2E, .ROL, .absolute, 3, 6, .never, .f3 .rolAbs⟩,
  ⟨0x3E, .ROL, .absoluteX, 3, 6, .pageCross, .f3 .rolAbsX⟩,
  ⟨0x6A, .ROR, .accumulator, 1, 2, .never, .f1 .rorA⟩,
  ⟨0x66, .ROR, .zeroPage, 2, 5, .never, .f2 .rorZp⟩,
  ⟨0x76, .ROR, .zeroPageX, 2, 6, .never, .f2 .rorZpX⟩,
  ⟨0x6E, .ROR, .absolute, 3, 6, .never, .f3 .rorAbs⟩,
  ⟨0x7E, .ROR, .absoluteX, 3, 6, .pageCross, .f3 .rorAbsX⟩]

/-- Rows of 30_encoding.md R96 whose semantics are in file 44. -/
def rowsBranch : List OpcodeRow := [
  ⟨0x90, .BCC, .relative, 2, 2, .branch, .f2 .bcc⟩,
  ⟨0xB0, .BCS, .relative, 2, 2, .branch, .f2 .bcs⟩,
  ⟨0xF0, .BEQ, .relative, 2, 2, .branch, .f2 .beq⟩,
  ⟨0xD0, .BNE, .relative, 2, 2, .branch, .f2 .bne⟩,
  ⟨0x50, .BVC, .relative, 2, 2, .branch, .f2 .bvc⟩,
  ⟨0x70, .BVS, .relative, 2, 2, .branch, .f2 .bvs⟩,
  ⟨0x10, .BPL, .relative, 2, 2, .branch, .f2 .bpl⟩,
  ⟨0x30, .BMI, .relative, 2, 2, .branch, .f2 .bmi⟩,
  ⟨0x24, .BIT, .zeroPage, 2, 3, .never, .f2 .bitZp⟩,
  ⟨0x2C, .BIT, .absolute, 3, 4, .never, .f3 .bitAbs⟩]

/-- Rows of 30_encoding.md R96 whose semantics are in file 45. -/
def rowsJump : List OpcodeRow := [
  ⟨0x4C, .JMP, .absolute, 3, 3, .never, .f3 .jmpAbs⟩,
  ⟨0x6C, .JMP, .indirect, 3, 5, .never, .f3 .jmpInd⟩,
  ⟨0x20, .JSR, .absolute, 3, 6, .never, .f3 .jsr⟩,
  ⟨0x60, .RTS, .implied, 1, 6, .never, .f1 .rts⟩,
  ⟨0x00, .BRK, .implied, 1, 7, .never, .f1 .brk⟩,
  ⟨0x40, .RTI, .implied, 1, 6, .never, .f1 .rti⟩]

/-- Rows of 30_encoding.md R96 whose semantics are in file 46. -/
def rowsCompare : List OpcodeRow := [
  ⟨0xC9, .CMP, .immediate, 2, 2, .never, .f2 .cmpImm⟩,
  ⟨0xC5, .CMP, .zeroPage, 2, 3, .never, .f2 .cmpZp⟩,
  ⟨0xD5, .CMP, .zeroPageX, 2, 4, .never, .f2 .cmpZpX⟩,
  ⟨0xCD, .CMP, .absolute, 3, 4, .never, .f3 .cmpAbs⟩,
  ⟨0xDD, .CMP, .absoluteX, 3, 4, .pageCross, .f3 .cmpAbsX⟩,
  ⟨0xD9, .CMP, .absoluteY, 3, 4, .pageCross, .f3 .cmpAbsY⟩,
  ⟨0xC1, .CMP, .indirectX, 2, 6, .never, .f2 .cmpIndX⟩,
  ⟨0xD1, .CMP, .indirectY, 2, 5, .pageCross, .f2 .cmpIndY⟩,
  ⟨0xE0, .CPX, .immediate, 2, 2, .never, .f2 .cpxImm⟩,
  ⟨0xE4, .CPX, .zeroPage, 2, 3, .never, .f2 .cpxZp⟩,
  ⟨0xEC, .CPX, .absolute, 3, 4, .never, .f3 .cpxAbs⟩,
  ⟨0xC0, .CPY, .immediate, 2, 2, .never, .f2 .cpyImm⟩,
  ⟨0xC4, .CPY, .zeroPage, 2, 3, .never, .f2 .cpyZp⟩,
  ⟨0xCC, .CPY, .absolute, 3, 4, .never, .f3 .cpyAbs⟩]

/-- Rows of 30_encoding.md R96 whose semantics are in file 47. -/
def rowsIncDecFlag : List OpcodeRow := [
  ⟨0xE6, .INC, .zeroPage, 2, 5, .never, .f2 .incZp⟩,
  ⟨0xF6, .INC, .zeroPageX, 2, 6, .never, .f2 .incZpX⟩,
  ⟨0xEE, .INC, .absolute, 3, 6, .never, .f3 .incAbs⟩,
  ⟨0xFE, .INC, .absoluteX, 3, 6, .pageCross, .f3 .incAbsX⟩,
  ⟨0xC6, .DEC, .zeroPage, 2, 5, .never, .f2 .decZp⟩,
  ⟨0xD6, .DEC, .zeroPageX, 2, 6, .never, .f2 .decZpX⟩,
  ⟨0xCE, .DEC, .absolute, 3, 6, .never, .f3 .decAbs⟩,
  ⟨0xDE, .DEC, .absoluteX, 3, 6, .pageCross, .f3 .decAbsX⟩,
  ⟨0xE8, .INX, .implied, 1, 2, .never, .f1 .inx⟩,
  ⟨0xCA, .DEX, .implied, 1, 2, .never, .f1 .dex⟩,
  ⟨0xC8, .INY, .implied, 1, 2, .never, .f1 .iny⟩,
  ⟨0x88, .DEY, .implied, 1, 2, .never, .f1 .dey⟩,
  ⟨0x18, .CLC, .implied, 1, 2, .never, .f1 .clc⟩,
  ⟨0x38, .SEC, .implied, 1, 2, .never, .f1 .sec⟩,
  ⟨0x58, .CLI, .implied, 1, 2, .never, .f1 .cli⟩,
  ⟨0x78, .SEI, .implied, 1, 2, .never, .f1 .sei⟩,
  ⟨0xD8, .CLD, .implied, 1, 2, .never, .f1 .cld⟩,
  ⟨0xF8, .SED, .implied, 1, 2, .never, .f1 .sed⟩,
  ⟨0xB8, .CLV, .implied, 1, 2, .never, .f1 .clv⟩]

/-- Rows of 30_encoding.md R96 whose semantics are in file 48. -/
def rowsLoadStore : List OpcodeRow := [
  ⟨0xA9, .LDA, .immediate, 2, 2, .never, .f2 .ldaImm⟩,
  ⟨0xA5, .LDA, .zeroPage, 2, 3, .never, .f2 .ldaZp⟩,
  ⟨0xB5, .LDA, .zeroPageX, 2, 4, .never, .f2 .ldaZpX⟩,
  ⟨0xAD, .LDA, .absolute, 3, 4, .never, .f3 .ldaAbs⟩,
  ⟨0xBD, .LDA, .absoluteX, 3, 4, .pageCross, .f3 .ldaAbsX⟩,
  ⟨0xB9, .LDA, .absoluteY, 3, 4, .pageCross, .f3 .ldaAbsY⟩,
  ⟨0xA1, .LDA, .indirectX, 2, 6, .never, .f2 .ldaIndX⟩,
  ⟨0xB1, .LDA, .indirectY, 2, 5, .pageCross, .f2 .ldaIndY⟩,
  ⟨0xA2, .LDX, .immediate, 2, 2, .never, .f2 .ldxImm⟩,
  ⟨0xA6, .LDX, .zeroPage, 2, 3, .never, .f2 .ldxZp⟩,
  ⟨0xB6, .LDX, .zeroPageY, 2, 4, .never, .f2 .ldxZpY⟩,
  ⟨0xAE, .LDX, .absolute, 3, 4, .never, .f3 .ldxAbs⟩,
  ⟨0xBE, .LDX, .absoluteY, 3, 4, .pageCross, .f3 .ldxAbsY⟩,
  ⟨0xA0, .LDY, .immediate, 2, 2, .never, .f2 .ldyImm⟩,
  ⟨0xA4, .LDY, .zeroPage, 2, 3, .never, .f2 .ldyZp⟩,
  ⟨0xB4, .LDY, .zeroPageX, 2, 4, .never, .f2 .ldyZpX⟩,
  ⟨0xAC, .LDY, .absolute, 3, 4, .never, .f3 .ldyAbs⟩,
  ⟨0xBC, .LDY, .absoluteX, 3, 4, .pageCross, .f3 .ldyAbsX⟩,
  ⟨0x85, .STA, .zeroPage, 2, 3, .never, .f2 .staZp⟩,
  ⟨0x95, .STA, .zeroPageX, 2, 4, .never, .f2 .staZpX⟩,
  ⟨0x8D, .STA, .absolute, 3, 4, .never, .f3 .staAbs⟩,
  ⟨0x9D, .STA, .absoluteX, 3, 4, .pageCross, .f3 .staAbsX⟩,
  ⟨0x99, .STA, .absoluteY, 3, 4, .pageCross, .f3 .staAbsY⟩,
  ⟨0x81, .STA, .indirectX, 2, 6, .never, .f2 .staIndX⟩,
  ⟨0x91, .STA, .indirectY, 2, 5, .pageCross, .f2 .staIndY⟩,
  ⟨0x86, .STX, .zeroPage, 2, 3, .never, .f2 .stxZp⟩,
  ⟨0x96, .STX, .zeroPageY, 2, 4, .never, .f2 .stxZpY⟩,
  ⟨0x8E, .STX, .absolute, 3, 4, .never, .f3 .stxAbs⟩,
  ⟨0x84, .STY, .zeroPage, 2, 3, .never, .f2 .styZp⟩,
  ⟨0x94, .STY, .zeroPageX, 2, 4, .never, .f2 .styZpX⟩,
  ⟨0x8C, .STY, .absolute, 3, 4, .never, .f3 .styAbs⟩]

/-- Rows of 30_encoding.md R96 whose semantics are in file 49. -/
def rowsTransfer : List OpcodeRow := [
  ⟨0xAA, .TAX, .implied, 1, 2, .never, .f1 .tax⟩,
  ⟨0x8A, .TXA, .implied, 1, 2, .never, .f1 .txa⟩,
  ⟨0xA8, .TAY, .implied, 1, 2, .never, .f1 .tay⟩,
  ⟨0x98, .TYA, .implied, 1, 2, .never, .f1 .tya⟩,
  ⟨0x9A, .TXS, .implied, 1, 2, .never, .f1 .txs⟩,
  ⟨0xBA, .TSX, .implied, 1, 2, .never, .f1 .tsx⟩,
  ⟨0x48, .PHA, .implied, 1, 3, .never, .f1 .pha⟩,
  ⟨0x68, .PLA, .implied, 1, 4, .never, .f1 .pla⟩,
  ⟨0x08, .PHP, .implied, 1, 3, .never, .f1 .php⟩,
  ⟨0x28, .PLP, .implied, 1, 4, .never, .f1 .plp⟩,
  ⟨0xEA, .NOP, .implied, 1, 2, .never, .f1 .nop⟩]

/-- The opcode table: the 151 rows of 30_encoding.md R96. -/
def opcodeTable : List OpcodeRow :=
  rowsArithmetic ++ rowsLogical ++ rowsShift ++ rowsBranch ++ rowsJump ++
  rowsCompare ++ rowsIncDecFlag ++ rowsLoadStore ++ rowsTransfer

/-- `decode(op)` of 30_encoding.md R96: the row whose opcode is the byte, none for the 105 bytes of R97. -/
def opcodeRow? (op : Byte) : Option OpcodeRow := opcodeTable.find? fun r => r.opcode == op

/-- Why bytes are no instruction. -/
inductive DecodeError where
  /-- The opcode byte is in no row (30_encoding.md R97, R98). -/
  | undocumented (op : Byte)
  /-- The bytes end before the instruction does. -/
  | truncated
deriving DecidableEq, Repr

/-- Read one instruction from the front of some bytes (30_encoding.md R90 to R93) and give the bytes after it. -/
def decode : List Byte → Except DecodeError (Instr × List Byte)
  | [] => .error .truncated
  | op :: rest =>
    match (opcodeRow? op).map OpcodeRow.form, rest with
    | none, _ => .error (.undocumented op)
    | some (.f1 i), rest => .ok (i, rest)
    | some (.f2 mk), b1 :: rest => .ok (mk b1, rest)
    | some (.f3 mk), b1 :: b2 :: rest => .ok (mk b1 b2, rest)
    | some _, _ => .error .truncated

/-- The opcode byte of an instruction, by the OPCODE column of 30_encoding.md R96. -/
def Instr.opcode : Instr → Byte
  | .adcImm .. => 0x69
  | .adcZp .. => 0x65
  | .adcZpX .. => 0x75
  | .adcAbs .. => 0x6D
  | .adcAbsX .. => 0x7D
  | .adcAbsY .. => 0x79
  | .adcIndX .. => 0x61
  | .adcIndY .. => 0x71
  | .sbcImm .. => 0xE9
  | .sbcZp .. => 0xE5
  | .sbcZpX .. => 0xF5
  | .sbcAbs .. => 0xED
  | .sbcAbsX .. => 0xFD
  | .sbcAbsY .. => 0xF9
  | .sbcIndX .. => 0xE1
  | .sbcIndY .. => 0xF1
  | .andImm .. => 0x29
  | .andZp .. => 0x25
  | .andZpX .. => 0x35
  | .andAbs .. => 0x2D
  | .andAbsX .. => 0x3D
  | .andAbsY .. => 0x39
  | .andIndX .. => 0x21
  | .andIndY .. => 0x31
  | .oraImm .. => 0x09
  | .oraZp .. => 0x05
  | .oraZpX .. => 0x15
  | .oraAbs .. => 0x0D
  | .oraAbsX .. => 0x1D
  | .oraAbsY .. => 0x19
  | .oraIndX .. => 0x01
  | .oraIndY .. => 0x11
  | .eorImm .. => 0x49
  | .eorZp .. => 0x45
  | .eorZpX .. => 0x55
  | .eorAbs .. => 0x4D
  | .eorAbsX .. => 0x5D
  | .eorAbsY .. => 0x59
  | .eorIndX .. => 0x41
  | .eorIndY .. => 0x51
  | .aslA => 0x0A
  | .aslZp .. => 0x06
  | .aslZpX .. => 0x16
  | .aslAbs .. => 0x0E
  | .aslAbsX .. => 0x1E
  | .lsrA => 0x4A
  | .lsrZp .. => 0x46
  | .lsrZpX .. => 0x56
  | .lsrAbs .. => 0x4E
  | .lsrAbsX .. => 0x5E
  | .rolA => 0x2A
  | .rolZp .. => 0x26
  | .rolZpX .. => 0x36
  | .rolAbs .. => 0x2E
  | .rolAbsX .. => 0x3E
  | .rorA => 0x6A
  | .rorZp .. => 0x66
  | .rorZpX .. => 0x76
  | .rorAbs .. => 0x6E
  | .rorAbsX .. => 0x7E
  | .bcc .. => 0x90
  | .bcs .. => 0xB0
  | .beq .. => 0xF0
  | .bne .. => 0xD0
  | .bvc .. => 0x50
  | .bvs .. => 0x70
  | .bpl .. => 0x10
  | .bmi .. => 0x30
  | .bitZp .. => 0x24
  | .bitAbs .. => 0x2C
  | .jmpAbs .. => 0x4C
  | .jmpInd .. => 0x6C
  | .jsr .. => 0x20
  | .rts => 0x60
  | .brk => 0x00
  | .rti => 0x40
  | .cmpImm .. => 0xC9
  | .cmpZp .. => 0xC5
  | .cmpZpX .. => 0xD5
  | .cmpAbs .. => 0xCD
  | .cmpAbsX .. => 0xDD
  | .cmpAbsY .. => 0xD9
  | .cmpIndX .. => 0xC1
  | .cmpIndY .. => 0xD1
  | .cpxImm .. => 0xE0
  | .cpxZp .. => 0xE4
  | .cpxAbs .. => 0xEC
  | .cpyImm .. => 0xC0
  | .cpyZp .. => 0xC4
  | .cpyAbs .. => 0xCC
  | .incZp .. => 0xE6
  | .incZpX .. => 0xF6
  | .incAbs .. => 0xEE
  | .incAbsX .. => 0xFE
  | .decZp .. => 0xC6
  | .decZpX .. => 0xD6
  | .decAbs .. => 0xCE
  | .decAbsX .. => 0xDE
  | .inx => 0xE8
  | .dex => 0xCA
  | .iny => 0xC8
  | .dey => 0x88
  | .clc => 0x18
  | .sec => 0x38
  | .cli => 0x58
  | .sei => 0x78
  | .cld => 0xD8
  | .sed => 0xF8
  | .clv => 0xB8
  | .ldaImm .. => 0xA9
  | .ldaZp .. => 0xA5
  | .ldaZpX .. => 0xB5
  | .ldaAbs .. => 0xAD
  | .ldaAbsX .. => 0xBD
  | .ldaAbsY .. => 0xB9
  | .ldaIndX .. => 0xA1
  | .ldaIndY .. => 0xB1
  | .ldxImm .. => 0xA2
  | .ldxZp .. => 0xA6
  | .ldxZpY .. => 0xB6
  | .ldxAbs .. => 0xAE
  | .ldxAbsY .. => 0xBE
  | .ldyImm .. => 0xA0
  | .ldyZp .. => 0xA4
  | .ldyZpX .. => 0xB4
  | .ldyAbs .. => 0xAC
  | .ldyAbsX .. => 0xBC
  | .staZp .. => 0x85
  | .staZpX .. => 0x95
  | .staAbs .. => 0x8D
  | .staAbsX .. => 0x9D
  | .staAbsY .. => 0x99
  | .staIndX .. => 0x81
  | .staIndY .. => 0x91
  | .stxZp .. => 0x86
  | .stxZpY .. => 0x96
  | .stxAbs .. => 0x8E
  | .styZp .. => 0x84
  | .styZpX .. => 0x94
  | .styAbs .. => 0x8C
  | .tax => 0xAA
  | .txa => 0x8A
  | .tay => 0xA8
  | .tya => 0x98
  | .txs => 0x9A
  | .tsx => 0xBA
  | .pha => 0x48
  | .pla => 0x68
  | .php => 0x08
  | .plp => 0x28
  | .nop => 0xEA

/-- The bytes of an instruction: its opcode, then its operand bytes, low address byte first (30_encoding.md R90, R92). -/
def encode (i : Instr) : List Byte := i.opcode :: i.operands

/-- The CLK column of an instruction's row (30_encoding.md R96, 70_reset_and_hazards.md R300). -/
def Instr.clocks (i : Instr) : Nat := ((opcodeRow? i.opcode).map OpcodeRow.clk).getD 0

/-- The notes column of an instruction's row (30_encoding.md R96, 70_reset_and_hazards.md R300). -/
def Instr.extraClocks (i : Instr) : ExtraClocks := ((opcodeRow? i.opcode).map OpcodeRow.extra).getD .never

/-- The three bytes that bits 7..0, 15..8 and 23..16 of `w` give when the bits from `nbits` up are 0. -/
def tableBytes (nbits w : Nat) : List Byte :=
  let v := w % 2 ^ nbits
  [BitVec.ofNat 8 v, BitVec.ofNat 8 (v / 256), BitVec.ofNat 8 (v / 65536)]

/-- The instruction the decoder reads from a word of `nbits` bits numbered as the opcode table numbers them. -/
def decodeTableWord (nbits w : Nat) : Option Instr :=
  match decode (tableBytes nbits w) with
  | .ok (i, _) => some i
  | .error _ => none

end Sys2Proof
end

