-- ==== Sys2Proof/Machine/State.lean ====
section
/-! DEFINITION. The state of the machine, the reasons a step can stop, and the state after reset (10_state.md).
State is plain data. -/

namespace Sys2Proof.Machine

/-- The seven flags of P (10_state.md R24). Bit 5 of P is hard-wired to 1 (R25) and so holds no data: `Status.toByte`
gives it as 1 and `Status.ofByte` discards it (log 1). -/
structure Status where
  /-- Negative, bit 7 (10_state.md R26). -/
  n : Bool
  /-- oVerflow, bit 6 (10_state.md R27). -/
  v : Bool
  /-- Break, bit 4 (10_state.md R28, R29). -/
  b : Bool
  /-- Decimal, bit 3 (10_state.md R31). -/
  d : Bool
  /-- Interrupt disable, bit 2 (10_state.md R30). -/
  i : Bool
  /-- Zero, bit 1 (10_state.md R32). -/
  z : Bool
  /-- Carry, bit 0 (10_state.md R33). -/
  c : Bool
deriving DecidableEq, Repr

/-- The bytes of the address space that hold something else than `Config.unlistedByte`, by strictly rising address. -/
abbrev Memory := List Host.Cell

/-- What answers at an address (20_memory.md R74): plain memory; memory that a write does not change; a device, of which
the spec says nothing. -/
inductive BusTarget where
  | memory | readOnly | device
deriving DecidableEq, Repr

/-- A part of the address map: `size` addresses from `base` up. -/
structure Region where
  base : Nat
  size : Nat
  target : BusTarget
deriving DecidableEq, Repr

/-- The kinds of bus access (20_memory.md R64, R65, R67). -/
inductive AccessKind where
  | read | write | dummyRead | dummyWrite
deriving DecidableEq, Repr

/-- One clock's bus access (20_memory.md R66). `data` is the byte read (also where it is discarded) or written. -/
structure BusCycle where
  kind : AccessKind
  addr : Addr
  data : Byte
deriving DecidableEq, Repr

/-- What the environment does to the three input lines before one boundary (60_exceptions.md R251 to R254): does it
request a RESET, does it signal an NMI, at which level does it put IRQ. -/
structure LineChange where
  reset : Bool
  nmi : Bool
  irq : Bool
deriving DecidableEq, Repr

/-- The four interrupts (60_exceptions.md R250). -/
inductive InterruptKind where
  | reset | nmi | irq | brk
deriving DecidableEq, Repr

/-- The whole state of the machine (10_state.md, introduction, R20 to R24, R39). -/
structure State where
  /-- A, the accumulator (10_state.md R20). -/
  a : Byte
  /-- X (10_state.md R20). -/
  x : Byte
  /-- Y (10_state.md R20). -/
  y : Byte
  /-- S, the stack pointer (10_state.md R23). -/
  sp : Byte
  /-- PC (10_state.md R22). -/
  pc : Addr
  /-- P, the processor status register (10_state.md R24). -/
  p : Status
  /-- The memory behind the bus (20_memory.md R60, R64). -/
  mem : Memory
  /-- The address map of the board, part of `Bus` (20_memory.md R74, 92 D2). No step changes it. -/
  board : List Region
  /-- `reset_req` (60_exceptions.md R251). -/
  resetReq : Bool
  /-- `nmi_pending` (60_exceptions.md R252). -/
  nmiPending : Bool
  /-- `irq_line` (60_exceptions.md R253). -/
  irqLine : Bool
  /-- The step just completed was a taken BRK (60_exceptions.md R260, R266). -/
  afterBrk : Bool
  /-- The model's own: what the environment does before each coming boundary, the next one first; when empty the lines
  keep their values (60_exceptions.md R254, 92 D6). That it is empty in `State.reset` is the model's choice (log 12). -/
  env : List LineChange
  /-- The model's own: clocks so far (20_memory.md R66); free values are drawn at it (log 20). -/
  clock : Nat
  /-- The model's own: the bus accesses of the step just completed, in order (20_memory.md R66, R81; log 20). -/
  cycles : List BusCycle
deriving DecidableEq, Repr

/-- Why the machine stops with a fault. -/
inductive Fault where
  /-- Raised by `step` at the boundary after a taken BRK when an NMI is pending and no RESET is requested: the spec gives
  this case no behaviour (60_exceptions.md R266, 92 D9). Safe. -/
  | brkInterrupted
deriving DecidableEq, Repr

/-- Why the machine refuses to go on. -/
inductive Refusal where
  /-- Raised by `exec` for an instruction without a meaning; no arm of this model answers it. Safe. -/
  | notModelled (mnemonic : String)
  /-- Raised by `step` when the fetched opcode byte is one of the 105 undocumented ones: the spec gives it no behaviour
  (30_encoding.md R98, 92 D10). Safe. -/
  | undocumented (op : Byte)
deriving DecidableEq, Repr

/-- The machine right after the RESET sequence (10_state.md R40, 70_reset_and_hazards.md R290). PC is the RESET vector's
content, which in a memory with nothing listed is `Config.unlistedByte` twice; I is 1; bit 5 of P is hard-wired. The
values the spec leaves unspecified are 0 (DESIGN CHOICE, unsafe, log 2), the address map is empty (DESIGN CHOICE, unsafe, log 5).
The environment's choices after reset are open (60_exceptions.md R254, 92 D6): `env := []`, no coming line change, so that a run
from here meets no interrupt, is the model's (DESIGN CHOICE, unsafe, log 12). -/
def State.reset : State where
  a := 0#8
  x := 0#8
  y := 0#8
  sp := 0#8
  pc := Config.unlistedByte ++ Config.unlistedByte
  p := { n := false, v := false, b := false, d := false, i := true, z := false, c := false }
  mem := []
  board := []
  resetReq := false
  nmiPending := false
  irqLine := false
  afterBrk := false
  env := []
  clock := 0
  cycles := []

/-- The machine at power-on, before the RESET sequence that is the first step of every run (60_exceptions.md R251). D at
power-on is open (00_scope.md R4, 10_state.md R40, 92 D3): D = 0, which the RESET sequence keeps, is the model's (DESIGN CHOICE,
unsafe, log 2). So are the PC and S of its dummy reads (logs 2, 3), the memory, the map and the lines (logs 4, 5, 12). -/
def State.powerOn : State := { State.reset with resetReq := true }

end Sys2Proof.Machine
end

