-- ==== Sys2Proof/Machine/Flags.lean ====
section
/-! DEFINITION. P as a byte, and every result and flag computation of the instructions, over bytes and flags alone.
Where the spec's pseudocode computes a true sum or difference, it is computed in `Nat` or `Int` and then narrowed. -/

namespace Sys2Proof.Machine

/-- P as a byte: N V 1 B D I Z C, bit 5 always 1 (10_state.md R24, R25). -/
def Status.toByte (p : Status) : Byte :=
  BitVec.ofBool p.n ++ BitVec.ofBool p.v ++ 1#1 ++ BitVec.ofBool p.b ++ BitVec.ofBool p.d ++ BitVec.ofBool p.i ++
    BitVec.ofBool p.z ++ BitVec.ofBool p.c

/-- All flags loaded from a pulled byte; bit 5 is not loaded (10_state.md R25, R35 "all", 92 D14). -/
def Status.ofByte (b : Byte) : Status where
  n := b.getLsbD 7
  v := b.getLsbD 6
  b := b.getLsbD 4
  d := b.getLsbD 3
  i := b.getLsbD 2
  z := b.getLsbD 1
  c := b.getLsbD 0

/-- `setNZ(v)` (10_state.md R34). -/
def setNZ (r : Byte) (p : Status) : Status := { p with n := r.getLsbD 7, z := r == 0#8 }

/-- ADC: the new A and flags (41_arithmetic.md R130; D is not read, R132). -/
def adc (a m : Byte) (p : Status) : Byte × Status :=
  let t : Nat := a.toNat + m.toNat + p.c.toNat
  let r : Byte := BitVec.ofNat 8 t
  (r, setNZ r { p with
    c := decide (255 < t)
    v := a.getLsbD 7 == m.getLsbD 7 && r.getLsbD 7 != a.getLsbD 7 })

/-- SBC: the new A and flags (41_arithmetic.md R131, conflict C3; D is not read, R132). -/
def sbc (a m : Byte) (p : Status) : Byte × Status :=
  let t : Int := (a.toNat : Int) - (m.toNat : Int) - (1 - (p.c.toNat : Int))
  let r : Byte := BitVec.ofInt 8 t
  (r, setNZ r { p with
    c := decide (0 ≤ t)
    v := a.getLsbD 7 != m.getLsbD 7 && r.getLsbD 7 != a.getLsbD 7 })

/-- `compare(R)`: the flags, the difference being discarded (46_compare.md R193, conflicts C3 and C4). -/
def compare (reg m : Byte) (p : Status) : Status :=
  let t : Int := (reg.toNat : Int) - (m.toNat : Int)
  setNZ (BitVec.ofInt 8 t) { p with c := decide (0 ≤ t) }

/-- BIT: the flags (44_branch_bittest.md R169). -/
def bitTest (a m : Byte) (p : Status) : Status :=
  { p with z := (a &&& m) == 0#8, n := m.getLsbD 7, v := m.getLsbD 6 }

/-- ASL: result and flags (43_shift_rotate.md R150). -/
def asl (v : Byte) (p : Status) : Byte × Status :=
  let r : Byte := BitVec.ofNat 8 (v.toNat * 2)
  (r, setNZ r { p with c := v.getLsbD 7 })

/-- LSR: result and flags (43_shift_rotate.md R151). -/
def lsr (v : Byte) (p : Status) : Byte × Status :=
  let r : Byte := BitVec.ofNat 8 (v.toNat / 2)
  (r, setNZ r { p with c := v.getLsbD 0 })

/-- ROL: result and flags, with the carry from before (43_shift_rotate.md R152). -/
def rol (v : Byte) (p : Status) : Byte × Status :=
  let r : Byte := BitVec.ofNat 8 (v.toNat * 2 % 256 + p.c.toNat)
  (r, setNZ r { p with c := v.getLsbD 7 })

/-- ROR: result and flags, with the carry from before (43_shift_rotate.md R153). -/
def ror (v : Byte) (p : Status) : Byte × Status :=
  let r : Byte := BitVec.ofNat 8 (v.toNat / 2 + 128 * p.c.toNat)
  (r, setNZ r { p with c := v.getLsbD 0 })

/-- INC, INX, INY: result modulo 256 and flags (47_incdec_flagops.md R200, R202, R204). -/
def increment (v : Byte) (p : Status) : Byte × Status := (v + 1, setNZ (v + 1) p)

/-- DEC, DEX, DEY: result modulo 256 and flags (47_incdec_flagops.md R201, R203, R205). -/
def decrement (v : Byte) (p : Status) : Byte × Status := (v - 1, setNZ (v - 1) p)

end Sys2Proof.Machine
end

