-- ==== Sys2Proof/Machine/Ops.lean ====
section
/-! DEFINITION. The named operations over memory, bus, registers and stack (20_memory.md), and interrupt entry and return
(60_exceptions.md R255, 45_jump_interrupt.md R182). An operation that makes a bus access records it and counts its clock. -/

namespace Sys2Proof.Machine

/-! ### Memory as a list of cells -/

/-- The byte at an address (20_memory.md R60); `Config.unlistedByte` where nothing is listed. -/
def Memory.read : Memory → Nat → Byte
  | [], _ => Config.unlistedByte
  | (k, v) :: rest, a => if k = a then v else Memory.read rest a

/-- The memory with nothing listed at an address. -/
def Memory.remove (a : Nat) : Memory → Memory
  | [] => []
  | (k, v) :: rest => if k = a then Memory.remove a rest else (k, v) :: Memory.remove a rest

/-- The memory with a cell put in before the first cell of a higher address. -/
def Memory.place (a : Nat) (v : Byte) : Memory → Memory
  | [] => [(a, v)]
  | (k, w) :: rest => if a < k then (a, v) :: (k, w) :: rest else (k, w) :: Memory.place a v rest

/-- The memory with a byte written; writing what an unlisted address reads as removes the cell. -/
def Memory.write (m : Memory) (a : Nat) (v : Byte) : Memory :=
  if v = Config.unlistedByte then Memory.remove a m else Memory.place a v (Memory.remove a m)

/-- The cells lie at strictly rising addresses from `low` up, inside the address space, none equal to the unlisted byte. -/
def Memory.wfFrom (low : Nat) : Memory → Bool
  | [] => true
  | (k, v) :: rest => decide (low ≤ k) && decide (k < 65536) && v != Config.unlistedByte && Memory.wfFrom (k + 1) rest

/-- The canonical form of a memory. -/
def Memory.wf (m : Memory) : Bool := Memory.wfFrom 0 m

/-! ### The bus -/

/-- What answers at an address: the first region that holds it; plain memory where none does (20_memory.md R74, log 5). -/
def targetAt : List Region → Addr → BusTarget
  | [], _ => .memory
  | r :: rest, a => if r.base ≤ a.toNat ∧ a.toNat < r.base + r.size then r.target else targetAt rest a

/-- The byte that a read of an address at clock number `n` would return (20_memory.md R64). -/
def busValue (s : State) (n : Nat) (a : Addr) : Byte :=
  match targetAt s.board a with
  | .memory | .readOnly => Memory.read s.mem a.toNat
  | .device => Config.deviceRead n a

/-- One clock passes with one bus access (20_memory.md R66). -/
def tick (cyc : BusCycle) (s : State) : State := { s with clock := s.clock + 1, cycles := s.cycles ++ [cyc] }

/-- `MemRead(addr, 1)` (20_memory.md R64). -/
def memRead (a : Addr) (s : State) : Byte × State :=
  let v := busValue s s.clock a
  (v, tick ⟨.read, a, v⟩ s)

/-- `DummyRead(addr)`: a read whose byte is discarded (20_memory.md R67). -/
def dummyRead (a : Addr) (s : State) : State := tick ⟨.dummyRead, a, busValue s s.clock a⟩ s

/-- `MemWrite(addr, 1, v)` (20_memory.md R65): plain memory then holds `v`; read-only memory and devices keep no byte that
this model holds (logs 6, 7). -/
def memWrite (a : Addr) (v : Byte) (s : State) : State :=
  let s1 := tick ⟨.write, a, v⟩ s
  match targetAt s.board a with
  | .memory => { s1 with mem := Memory.write s1.mem a.toNat v }
  | .readOnly | .device => s1

/-- `DummyWrite(addr)`: a write of a garbage byte (20_memory.md R67). The real write to the same address follows in the
next clock and overwrites it, so on plain memory it leaves no trace, and none is made here (log 8). -/
def dummyWrite (a : Addr) (s : State) : State := tick ⟨.dummyWrite, a, Config.garbageByte s.clock⟩ s

/-! ### Registers -/

/-- Write A. -/
def setA (v : Byte) (s : State) : State := { s with a := v }

/-- Write X. -/
def setX (v : Byte) (s : State) : State := { s with x := v }

/-- Write Y. -/
def setY (v : Byte) (s : State) : State := { s with y := v }

/-- Write S (10_state.md R23). -/
def setSp (v : Byte) (s : State) : State := { s with sp := v }

/-- Write PC (10_state.md R22). -/
def setPc (v : Addr) (s : State) : State := { s with pc := v }

/-- Write P (10_state.md R24). -/
def setP (v : Status) (s : State) : State := { s with p := v }

/-- The bus read of an instruction byte at PC, and PC incremented (40_addressing_modes.md, `fetch()`; 10_state.md R22). The
byte itself has already been handed to the instruction by the decoder (log 24). -/
def fetchCycle (s : State) : State := setPc (s.pc + 1) (memRead s.pc s).2

/-! ### The stack -/

/-- `push(v)`: store at $0100 + S, then decrement S (20_memory.md R68). -/
def push (v : Byte) (s : State) : State := setSp (s.sp - 1) (memWrite (stackAddr s.sp) v s)

/-- `pull()`: increment S, then read at $0100 + S (20_memory.md R69). -/
def pull (s : State) : Byte × State := memRead (stackAddr (s.sp + 1)) (setSp (s.sp + 1) s)

/-! ### Interrupts -/

/-- The address of an interrupt's vector (60_exceptions.md R250). -/
def vectorAddr : InterruptKind → Addr
  | .nmi => 0xFFFA
  | .reset => 0xFFFC
  | .irq | .brk => 0xFFFE

/-- Cycle 2 of a BRK, in which PC is advanced once more, or cycles 1 and 2 of the others (60_exceptions.md R255). -/
def interruptLead (kind : InterruptKind) (s : State) : State :=
  match kind with
  | .brk => setPc (s.pc + 1) (dummyRead s.pc s)
  | .reset | .nmi | .irq => dummyRead s.pc (dummyRead s.pc s)

/-- B set by BRK, cleared by NMI and IRQ (10_state.md R28, 60_exceptions.md R255). -/
def interruptMarkB (kind : InterruptKind) (s : State) : State :=
  match kind with
  | .brk => setP { s.p with b := true } s
  | .nmi | .irq => setP { s.p with b := false } s
  | .reset => s

/-- Cycles 3 to 5: PC high, PC low and P pushed; for RESET three reads instead (60_exceptions.md R255, R256). -/
def interruptSave (kind : InterruptKind) (s : State) : State :=
  match kind with
  | .reset =>
    dummyRead (stackAddr (s.sp - 2)) (dummyRead (stackAddr (s.sp - 1)) (dummyRead (stackAddr s.sp) s))
  | .nmi | .irq | .brk => push s.p.toByte (push (loByte s.pc) (push (hiByte s.pc) s))

/-- Cycles 6 and 7: PC from the vector, low byte first (60_exceptions.md R255). -/
def loadVector (kind : InterruptKind) (s : State) : State :=
  let l := memRead (vectorAddr kind) s
  let h := memRead (vectorAddr kind + 1) l.2
  setPc (mkAddr h.1 l.1) h.2

/-- The values that RESET leaves unspecified, from a draw (60_exceptions.md R256, 10_state.md R40). -/
def applyResetDraw (r : Config.ResetDraw) (s : State) : State :=
  { s with
    a := r.a, x := r.x, y := r.y, sp := r.sp, nmiPending := r.nmiPending
    p := { s.p with n := r.n, v := r.v, b := r.b, z := r.z, c := r.c } }

/-- What becomes of the requests: RESET consumes its request, NMI its latch (60_exceptions.md R251, R252, R255); BRK is
remembered for the next boundary (R266). -/
def interruptFinish (kind : InterruptKind) (draw : Config.ResetDraw) (s : State) : State :=
  match kind with
  | .reset => applyResetDraw draw { s with resetReq := false, afterBrk := false }
  | .nmi => { s with nmiPending := false, afterBrk := false }
  | .irq => { s with afterBrk := false }
  | .brk => { s with afterBrk := true }

/-- Taking an interrupt, the one sequence of all four kinds (60_exceptions.md R255 to R259). -/
def interruptEntry (kind : InterruptKind) (s : State) : State :=
  let s1 := interruptSave kind (interruptMarkB kind (interruptLead kind s))
  let s2 := setP { s1.p with i := true } s1
  interruptFinish kind (Config.resetDraw s.clock) (loadVector kind s2)

/-- The dummy reads of some addresses in the clocks from `n` on, as accesses. -/
def dummyReadCycles (s : State) : Nat → List Addr → List BusCycle
  | _, [] => []
  | n, a :: rest => ⟨.dummyRead, a, busValue s n a⟩ :: dummyReadCycles s (n + 1) rest

/-- The reads an ignored BRK may make, which the spec leaves open (92 D8, 93 U3; log 10). -/
def openReads (addrs : List Addr) (s : State) : State :=
  { s with clock := s.clock + addrs.length, cycles := s.cycles ++ dummyReadCycles s s.clock addrs }

/-- Return from an interrupt after the opcode fetch (45_jump_interrupt.md R182). -/
def returnFromInterrupt (s : State) : State :=
  let s1 := dummyRead (stackAddr s.sp) (dummyRead s.pc s)
  let status := pull s1
  let l := pull (setP (Status.ofByte status.1) status.2)
  let h := pull l.2
  setPc (mkAddr h.1 l.1) h.2

end Sys2Proof.Machine
end

