-- ==== Sys2Proof/Machine/Boundary.lean ====
section
/-! DEFINITION. What happens at an instruction boundary: the input lines, what is taken, and the fetch of the next
instruction's bytes for the decoder (00_scope.md R6, 60_exceptions.md R251 to R260, R266). -/

namespace Sys2Proof.Machine

/-- What a boundary leads to. -/
inductive Boundary where
  /-- An interrupt sequence. -/
  | take (kind : InterruptKind)
  /-- An NMI signalled during a BRK (60_exceptions.md R266). -/
  | brkLost
  /-- The next instruction. -/
  | run
deriving DecidableEq, Repr

/-- The environment's change before this boundary: a RESET request and an NMI event are latched, IRQ is a level
(60_exceptions.md R251 to R254, log 12). -/
def sampleInputs (s : State) : State :=
  match s.env with
  | [] => s
  | e :: rest =>
    { s with env := rest, resetReq := s.resetReq || e.reset, nmiPending := s.nmiPending || e.nmi, irqLine := e.irq }

/-- The state at the boundary that a step begins with: inputs sampled, no access of this step made yet. -/
def atBoundary (s : State) : State := { sampleInputs s with cycles := [] }

/-- What is taken at a boundary: RESET, else NMI, else IRQ if I = 0, else the next instruction (60_exceptions.md R260),
with the exception of R266. -/
def boundary (s : State) : Boundary :=
  if s.resetReq then .take .reset
  else if s.nmiPending then (if s.afterBrk then .brkLost else .take .nmi)
  else if s.irqLine && !s.p.i then .take .irq
  else .run

/-- The state in which an instruction starts: the step before it no longer counts as a BRK (60_exceptions.md R266). -/
def startInstr (s : State) : State := { s with afterBrk := false }

/-- The bytes that the reads of the opcode and of up to two operand bytes would return, in the clocks in which the
instruction makes them (30_encoding.md R90, 10_state.md R37). No access is made by looking (log 24). -/
def fetchBytes (s : State) : List Byte :=
  [busValue s s.clock s.pc, busValue s (s.clock + 1) (s.pc + 1), busValue s (s.clock + 2) (s.pc + 2)]

/-- The instruction at PC, or the opcode byte that is undocumented (30_encoding.md R96 to R98). -/
def fetchInstr (s : State) : Except Byte Instr :=
  match decode (fetchBytes s) with
  | .ok (i, _) => .ok i
  | .error _ => .error (busValue s s.clock s.pc)

/-- Put a byte where an address's reads find it, making the address plain memory if a device answers there. -/
def plantByte (a : Addr) (v : Byte) (s : State) : State :=
  let s1 : State := { s with mem := Memory.write s.mem a.toNat v }
  match targetAt s.board a with
  | .memory | .readOnly => s1
  | .device => { s1 with board := ⟨a.toNat, 1, .memory⟩ :: s.board }

/-- Put bytes at consecutive addresses from one up. -/
def plantBytes : Addr → List Byte → State → State
  | _, [], s => s
  | a, v :: rest, s => plantBytes (a + 1) rest (plantByte a v s)

/-- The input lines at rest, now and at the coming boundaries. -/
def quietLines (s : State) : State :=
  { s with resetReq := false, nmiPending := false, irqLine := false, env := [] }

end Sys2Proof.Machine
end

