-- ==== Sys2Proof/Machine/Operands.lean ====
section
/-! DEFINITION. The addressing modes with their bus sequences (40_addressing_modes.md) and the shapes in which an
instruction uses its operand. A shape takes the state at the instruction's opcode: PC is `opaddr`. -/

namespace Sys2Proof.Machine

/-- The whole machine's answer. -/
abbrev Result := Host.Outcome State Fault Refusal

/-- Effective address of a memory operand, and the state after the accesses that form it; on entry the opcode has been
fetched, PC = opaddr + 1 (40_addressing_modes.md R113 to R116, R119, R120; conflict C1). -/
def resolve (m : MemOperand) (s : State) : Addr × State :=
  match m with
  | .zeroPage lo => (zeroPageAddr lo, fetchCycle s)
  | .zeroPageX lo => (zeroPageAddr (add8 lo s.x), dummyRead s.pc (fetchCycle s))
  | .zeroPageY lo => (zeroPageAddr (add8 lo s.y), dummyRead s.pc (fetchCycle s))
  | .absolute lo hi => (mkAddr hi lo, fetchCycle (fetchCycle s))
  | .absoluteX lo hi =>
    let s1 := fetchCycle (fetchCycle s)
    (add16 (mkAddr hi lo) s.x, if indexCrosses (mkAddr hi lo) s.x then dummyRead (s.pc + 1) s1 else s1)
  | .absoluteY lo hi =>
    let s1 := fetchCycle (fetchCycle s)
    (add16 (mkAddr hi lo) s.y, if indexCrosses (mkAddr hi lo) s.y then dummyRead (s.pc + 1) s1 else s1)
  | .indirectX lo =>
    let ptr := add8 lo s.x
    let l := memRead (zeroPageAddr ptr) (dummyRead s.pc (fetchCycle s))
    let h := memRead (zeroPageAddr (add8 ptr 1)) l.2
    (mkAddr h.1 l.1, h.2)
  | .indirectY lo =>
    let l := memRead (zeroPageAddr lo) (fetchCycle s)
    let h := memRead (zeroPageAddr (add8 lo 1)) l.2
    let base := mkAddr h.1 l.1
    (add16 base s.y, if indexCrosses base s.y then dummyRead (zeroPageAddr (add8 lo 1)) h.2 else h.2)

/-- The datum of a read operand, and the state after its accesses (40_addressing_modes.md R112, R122 "read"). -/
def readOperand (o : ReadOperand) (s : State) : Byte × State :=
  match o with
  | .immediate data => (data, fetchCycle s)
  | .memory m => let r := resolve m s; memRead r.1 r.2

/-- An instruction that reads a datum and then acts on registers (40_addressing_modes.md R122 "read"). -/
def withRead (o : ReadOperand) (act : Byte → State → State) (s : State) : State :=
  let r := readOperand o (fetchCycle s)
  act r.1 r.2

/-- An instruction that stores a register, with no read of the address before (40_addressing_modes.md R122 "write"). -/
def withWrite (m : MemOperand) (reg : State → Byte) (s : State) : State :=
  let r := resolve m (fetchCycle s)
  memWrite r.1 (reg r.2) r.2

/-- An instruction that reads a byte, writes garbage, then writes the result back (40_addressing_modes.md R122
"read-modify-write"). -/
def withModify (m : MemOperand) (f : Byte → Status → Byte × Status) (s : State) : State :=
  let r := resolve m (fetchCycle s)
  let v := memRead r.1 r.2
  let res := f v.1 s.p
  setP res.2 (memWrite r.1 res.1 (dummyWrite r.1 v.2))

/-- An instruction of the Implied mode: opcode fetch, dummy read of the next byte (40_addressing_modes.md R117). -/
def withImplied (act : State → State) (s : State) : State :=
  let s1 := fetchCycle s
  act (dummyRead s1.pc s1)

/-- An instruction of the Accumulator mode (40_addressing_modes.md R111, 43_shift_rotate.md R154). -/
def withAccumulator (f : Byte → Status → Byte × Status) (s : State) : State :=
  withImplied (fun s1 => let r := f s1.a s1.p; setP r.2 (setA r.1 s1)) s

/-- A conditional branch (44_branch_bittest.md R160, 40_addressing_modes.md R118). -/
def withBranch (cond : Status → Bool) (off : Byte) (s : State) : State :=
  let s1 := fetchCycle (fetchCycle s)
  if cond s1.p then
    let target := addSx s1.pc off
    let s2 := dummyRead s1.pc s1
    setPc target (if branchCrosses s1.pc target then dummyRead s1.pc s2 else s2)
  else s1

/-- A loaded or computed byte goes into A and sets N and Z (10_state.md R34). -/
def loadA (v : Byte) (s : State) : State := setP (setNZ v s.p) (setA v s)

/-- A loaded or computed byte goes into X and sets N and Z (10_state.md R34). -/
def loadX (v : Byte) (s : State) : State := setP (setNZ v s.p) (setX v s)

/-- A loaded or computed byte goes into Y and sets N and Z (10_state.md R34). -/
def loadY (v : Byte) (s : State) : State := setP (setNZ v s.p) (setY v s)

/-- A result and flags go into A and P. -/
def putA (r : Byte × Status) (s : State) : State := setP r.2 (setA r.1 s)

end Sys2Proof.Machine
end

