-- ==== Sys2Proof/Machine/Arithmetic.lean ====
section
/-! DEFINITION. ADC and SBC (41_arithmetic.md). -/

namespace Sys2Proof.Machine

/-- ADC with its datum (41_arithmetic.md R130). -/
def addAct (m : Byte) (s : State) : State := putA (adc s.a m s.p) s

/-- SBC with its datum (41_arithmetic.md R131). -/
def subtractAct (m : Byte) (s : State) : State := putA (sbc s.a m s.p) s

/-- `ADC #$44`, Immediate, $69 (41_arithmetic.md R130). -/
def execAdcImm (data : Byte) (s : State) : Result := .next (withRead (.immediate data) addAct s)

/-- `ADC $44`, Zero Page, $65 (41_arithmetic.md R130). -/
def execAdcZp (lo : Byte) (s : State) : Result := .next (withRead (.memory (.zeroPage lo)) addAct s)

/-- `ADC $44,X`, Zero Page,X, $75 (41_arithmetic.md R130). -/
def execAdcZpX (lo : Byte) (s : State) : Result := .next (withRead (.memory (.zeroPageX lo)) addAct s)

/-- `ADC $4400`, Absolute, $6D (41_arithmetic.md R130). -/
def execAdcAbs (lo hi : Byte) (s : State) : Result := .next (withRead (.memory (.absolute lo hi)) addAct s)

/-- `ADC $4400,X`, Absolute,X, $7D (41_arithmetic.md R130). -/
def execAdcAbsX (lo hi : Byte) (s : State) : Result := .next (withRead (.memory (.absoluteX lo hi)) addAct s)

/-- `ADC $4400,Y`, Absolute,Y, $79 (41_arithmetic.md R130). -/
def execAdcAbsY (lo hi : Byte) (s : State) : Result := .next (withRead (.memory (.absoluteY lo hi)) addAct s)

/-- `ADC ($44,X)`, Indirect,X, $61 (41_arithmetic.md R130). -/
def execAdcIndX (lo : Byte) (s : State) : Result := .next (withRead (.memory (.indirectX lo)) addAct s)

/-- `ADC ($44),Y`, Indirect,Y, $71 (41_arithmetic.md R130). -/
def execAdcIndY (lo : Byte) (s : State) : Result := .next (withRead (.memory (.indirectY lo)) addAct s)

/-- `SBC #$44`, Immediate, $E9 (41_arithmetic.md R131). -/
def execSbcImm (data : Byte) (s : State) : Result := .next (withRead (.immediate data) subtractAct s)

/-- `SBC $44`, Zero Page, $E5 (41_arithmetic.md R131). -/
def execSbcZp (lo : Byte) (s : State) : Result := .next (withRead (.memory (.zeroPage lo)) subtractAct s)

/-- `SBC $44,X`, Zero Page,X, $F5 (41_arithmetic.md R131). -/
def execSbcZpX (lo : Byte) (s : State) : Result := .next (withRead (.memory (.zeroPageX lo)) subtractAct s)

/-- `SBC $4400`, Absolute, $ED (41_arithmetic.md R131). -/
def execSbcAbs (lo hi : Byte) (s : State) : Result := .next (withRead (.memory (.absolute lo hi)) subtractAct s)

/-- `SBC $4400,X`, Absolute,X, $FD (41_arithmetic.md R131). -/
def execSbcAbsX (lo hi : Byte) (s : State) : Result := .next (withRead (.memory (.absoluteX lo hi)) subtractAct s)

/-- `SBC $4400,Y`, Absolute,Y, $F9 (41_arithmetic.md R131). -/
def execSbcAbsY (lo hi : Byte) (s : State) : Result := .next (withRead (.memory (.absoluteY lo hi)) subtractAct s)

/-- `SBC ($44,X)`, Indirect,X, $E1 (41_arithmetic.md R131). -/
def execSbcIndX (lo : Byte) (s : State) : Result := .next (withRead (.memory (.indirectX lo)) subtractAct s)

/-- `SBC ($44),Y`, Indirect,Y, $F1 (41_arithmetic.md R131). -/
def execSbcIndY (lo : Byte) (s : State) : Result := .next (withRead (.memory (.indirectY lo)) subtractAct s)

end Sys2Proof.Machine
end

