-- ==== Sys2Proof/Machine/Branch.lean ====
section
/-! DEFINITION. The conditional branches and BIT (44_branch_bittest.md). -/

namespace Sys2Proof.Machine

/-- BIT with its datum: flags only (44_branch_bittest.md R169). -/
def bitAct (m : Byte) (s : State) : State := setP (bitTest s.a m s.p) s

/-- `BCC $44`, Relative, $90 (44_branch_bittest.md R161). -/
def execBcc (off : Byte) (s : State) : Result := .next (withBranch (fun p => !p.c) off s)

/-- `BCS $44`, Relative, $B0 (44_branch_bittest.md R162). -/
def execBcs (off : Byte) (s : State) : Result := .next (withBranch (fun p => p.c) off s)

/-- `BEQ $44`, Relative, $F0 (44_branch_bittest.md R163). -/
def execBeq (off : Byte) (s : State) : Result := .next (withBranch (fun p => p.z) off s)

/-- `BNE $44`, Relative, $D0 (44_branch_bittest.md R164). -/
def execBne (off : Byte) (s : State) : Result := .next (withBranch (fun p => !p.z) off s)

/-- `BVC $44`, Relative, $50 (44_branch_bittest.md R165). -/
def execBvc (off : Byte) (s : State) : Result := .next (withBranch (fun p => !p.v) off s)

/-- `BVS $44`, Relative, $70 (44_branch_bittest.md R166). -/
def execBvs (off : Byte) (s : State) : Result := .next (withBranch (fun p => p.v) off s)

/-- `BPL $44`, Relative, $10 (44_branch_bittest.md R167). -/
def execBpl (off : Byte) (s : State) : Result := .next (withBranch (fun p => !p.n) off s)

/-- `BMI $44`, Relative, $30 (44_branch_bittest.md R168). -/
def execBmi (off : Byte) (s : State) : Result := .next (withBranch (fun p => p.n) off s)

/-- `BIT $44`, Zero Page, $24 (44_branch_bittest.md R169). -/
def execBitZp (lo : Byte) (s : State) : Result := .next (withRead (.memory (.zeroPage lo)) bitAct s)

/-- `BIT $4400`, Absolute, $2C (44_branch_bittest.md R169). -/
def execBitAbs (lo hi : Byte) (s : State) : Result := .next (withRead (.memory (.absolute lo hi)) bitAct s)

end Sys2Proof.Machine
end

