-- ==== Sys2Proof/Machine/Compare.lean ====
section
/-! DEFINITION. CMP, CPX and CPY (46_compare.md). -/

namespace Sys2Proof.Machine

/-- A compare of a register with its datum: flags only (46_compare.md R193). -/
def compareAct (reg : State → Byte) (m : Byte) (s : State) : State := setP (compare (reg s) m s.p) s

/-- `CMP #$44`, Immediate, $C9 (46_compare.md R190). -/
def execCmpImm (data : Byte) (s : State) : Result := .next (withRead (.immediate data) (compareAct State.a) s)

/-- `CMP $44`, Zero Page, $C5 (46_compare.md R190). -/
def execCmpZp (lo : Byte) (s : State) : Result := .next (withRead (.memory (.zeroPage lo)) (compareAct State.a) s)

/-- `CMP $44,X`, Zero Page,X, $D5 (46_compare.md R190). -/
def execCmpZpX (lo : Byte) (s : State) : Result := .next (withRead (.memory (.zeroPageX lo)) (compareAct State.a) s)

/-- `CMP $4400`, Absolute, $CD (46_compare.md R190). -/
def execCmpAbs (lo hi : Byte) (s : State) : Result :=
  .next (withRead (.memory (.absolute lo hi)) (compareAct State.a) s)

/-- `CMP $4400,X`, Absolute,X, $DD (46_compare.md R190). -/
def execCmpAbsX (lo hi : Byte) (s : State) : Result :=
  .next (withRead (.memory (.absoluteX lo hi)) (compareAct State.a) s)

/-- `CMP $4400,Y`, Absolute,Y, $D9 (46_compare.md R190). -/
def execCmpAbsY (lo hi : Byte) (s : State) : Result :=
  .next (withRead (.memory (.absoluteY lo hi)) (compareAct State.a) s)

/-- `CMP ($44,X)`, Indirect,X, $C1 (46_compare.md R190). -/
def execCmpIndX (lo : Byte) (s : State) : Result := .next (withRead (.memory (.indirectX lo)) (compareAct State.a) s)

/-- `CMP ($44),Y`, Indirect,Y, $D1 (46_compare.md R190). -/
def execCmpIndY (lo : Byte) (s : State) : Result := .next (withRead (.memory (.indirectY lo)) (compareAct State.a) s)

/-- `CPX #$44`, Immediate, $E0 (46_compare.md R191). -/
def execCpxImm (data : Byte) (s : State) : Result := .next (withRead (.immediate data) (compareAct State.x) s)

/-- `CPX $44`, Zero Page, $E4 (46_compare.md R191). -/
def execCpxZp (lo : Byte) (s : State) : Result := .next (withRead (.memory (.zeroPage lo)) (compareAct State.x) s)

/-- `CPX $4400`, Absolute, $EC (46_compare.md R191). -/
def execCpxAbs (lo hi : Byte) (s : State) : Result :=
  .next (withRead (.memory (.absolute lo hi)) (compareAct State.x) s)

/-- `CPY #$44`, Immediate, $C0 (46_compare.md R192). -/
def execCpyImm (data : Byte) (s : State) : Result := .next (withRead (.immediate data) (compareAct State.y) s)

/-- `CPY $44`, Zero Page, $C4 (46_compare.md R192). -/
def execCpyZp (lo : Byte) (s : State) : Result := .next (withRead (.memory (.zeroPage lo)) (compareAct State.y) s)

/-- `CPY $4400`, Absolute, $CC (46_compare.md R192). -/
def execCpyAbs (lo hi : Byte) (s : State) : Result :=
  .next (withRead (.memory (.absolute lo hi)) (compareAct State.y) s)

end Sys2Proof.Machine
end

