-- ==== Sys2Proof/Machine/IncDecFlag.lean ====
section
/-! DEFINITION. Increments, decrements and the flag instructions (47_incdec_flagops.md). -/

namespace Sys2Proof.Machine

/-- `INC $44`, Zero Page, $E6 (47_incdec_flagops.md R200). -/
def execIncZp (lo : Byte) (s : State) : Result := .next (withModify (.zeroPage lo) increment s)

/-- `INC $44,X`, Zero Page,X, $F6 (47_incdec_flagops.md R200). -/
def execIncZpX (lo : Byte) (s : State) : Result := .next (withModify (.zeroPageX lo) increment s)

/-- `INC $4400`, Absolute, $EE (47_incdec_flagops.md R200). -/
def execIncAbs (lo hi : Byte) (s : State) : Result := .next (withModify (.absolute lo hi) increment s)

/-- `INC $4400,X`, Absolute,X, $FE (47_incdec_flagops.md R200). -/
def execIncAbsX (lo hi : Byte) (s : State) : Result := .next (withModify (.absoluteX lo hi) increment s)

/-- `DEC $44`, Zero Page, $C6 (47_incdec_flagops.md R201). -/
def execDecZp (lo : Byte) (s : State) : Result := .next (withModify (.zeroPage lo) decrement s)

/-- `DEC $44,X`, Zero Page,X, $D6 (47_incdec_flagops.md R201). -/
def execDecZpX (lo : Byte) (s : State) : Result := .next (withModify (.zeroPageX lo) decrement s)

/-- `DEC $4400`, Absolute, $CE (47_incdec_flagops.md R201). -/
def execDecAbs (lo hi : Byte) (s : State) : Result := .next (withModify (.absolute lo hi) decrement s)

/-- `DEC $4400,X`, Absolute,X, $DE (47_incdec_flagops.md R201). -/
def execDecAbsX (lo hi : Byte) (s : State) : Result := .next (withModify (.absoluteX lo hi) decrement s)

/-- `INX`, Implied, $E8 (47_incdec_flagops.md R202). -/
def execInx (s : State) : Result :=
  .next (withImplied (fun s1 => let r := increment s1.x s1.p; setP r.2 (setX r.1 s1)) s)

/-- `DEX`, Implied, $CA (47_incdec_flagops.md R203). -/
def execDex (s : State) : Result :=
  .next (withImplied (fun s1 => let r := decrement s1.x s1.p; setP r.2 (setX r.1 s1)) s)

/-- `INY`, Implied, $C8 (47_incdec_flagops.md R204). -/
def execIny (s : State) : Result :=
  .next (withImplied (fun s1 => let r := increment s1.y s1.p; setP r.2 (setY r.1 s1)) s)

/-- `DEY`, Implied, $88 (47_incdec_flagops.md R205). -/
def execDey (s : State) : Result :=
  .next (withImplied (fun s1 => let r := decrement s1.y s1.p; setP r.2 (setY r.1 s1)) s)

/-- `CLC`, Implied, $18 (47_incdec_flagops.md R210). -/
def execClc (s : State) : Result := .next (withImplied (fun s1 => setP { s1.p with c := false } s1) s)

/-- `SEC`, Implied, $38 (47_incdec_flagops.md R211). -/
def execSec (s : State) : Result := .next (withImplied (fun s1 => setP { s1.p with c := true } s1) s)

/-- `CLI`, Implied, $58 (47_incdec_flagops.md R212). -/
def execCli (s : State) : Result := .next (withImplied (fun s1 => setP { s1.p with i := false } s1) s)

/-- `SEI`, Implied, $78 (47_incdec_flagops.md R213). -/
def execSei (s : State) : Result := .next (withImplied (fun s1 => setP { s1.p with i := true } s1) s)

/-- `CLD`, Implied, $D8 (47_incdec_flagops.md R214). -/
def execCld (s : State) : Result := .next (withImplied (fun s1 => setP { s1.p with d := false } s1) s)

/-- `SED`, Implied, $F8 (47_incdec_flagops.md R215). -/
def execSed (s : State) : Result := .next (withImplied (fun s1 => setP { s1.p with d := true } s1) s)

/-- `CLV`, Implied, $B8 (47_incdec_flagops.md R216). -/
def execClv (s : State) : Result := .next (withImplied (fun s1 => setP { s1.p with v := false } s1) s)

end Sys2Proof.Machine
end

