-- ==== Sys2Proof/Machine/Jump.lean ====
section
/-! DEFINITION. Jumps, subroutines and the interrupt instructions (45_jump_interrupt.md). -/

namespace Sys2Proof.Machine

/-- `JMP $5597`, Absolute, $4C (45_jump_interrupt.md R175). -/
def execJmpAbs (lo hi : Byte) (s : State) : Result :=
  .next (setPc (mkAddr hi lo) (fetchCycle (fetchCycle (fetchCycle s))))

/-- `JMP ($5597)`, Indirect, $6C (45_jump_interrupt.md R176, 40_addressing_modes.md R121): the high byte comes from the
same page as the low byte; no dummy read (92 D20, log 18). -/
def execJmpInd (lo hi : Byte) (s : State) : Result :=
  let l := memRead (mkAddr hi lo) (fetchCycle (fetchCycle (fetchCycle s)))
  let h := memRead (mkAddr hi (add8 lo 1)) l.2
  .next (setPc (mkAddr h.1 l.1) h.2)

/-- `JSR $5597`, $20 (45_jump_interrupt.md R177, conflict C12): the third byte is read from the bus after the pushes, so
`hi`, the byte there when the instruction was decoded, is not used (20_memory.md R79, log 16). -/
def execJsr (lo _hi : Byte) (s : State) : Result :=
  let s1 := fetchCycle (fetchCycle s)
  let s2 := push (loByte s1.pc) (push (hiByte s1.pc) (dummyRead (stackAddr s1.sp) s1))
  let h := memRead s2.pc s2
  .next (setPc (mkAddr h.1 lo) h.2)

/-- `RTS`, $60 (45_jump_interrupt.md R178, conflict C8). -/
def execRts (s : State) : Result :=
  let s1 := fetchCycle s
  let l := pull (dummyRead (stackAddr s1.sp) (dummyRead s1.pc s1))
  let h := pull l.2
  .next (setPc (mkAddr h.1 l.1 + 1) (dummyRead (mkAddr h.1 l.1) h.2))

/-- `BRK`, $00 (45_jump_interrupt.md R181, 60_exceptions.md R259, conflicts C9 and C10): ignored while I = 1, a one-byte
instruction whose accesses after the opcode fetch are open (92 D8); else the interrupt sequence. -/
def execBrk (s : State) : Result :=
  let s1 := fetchCycle s
  .next (if s.p.i && Config.brkMaskedByI then openReads (Config.ignoredBrkReads s.clock) s1
    else interruptEntry .brk s1)

/-- `RTI`, $40 (45_jump_interrupt.md R182). -/
def execRti (s : State) : Result := .next (returnFromInterrupt (fetchCycle s))

end Sys2Proof.Machine
end

