-- ==== Sys2Proof/Machine/LoadStore.lean ====
section
/-! DEFINITION. Loads and stores (48_load_store.md). -/

namespace Sys2Proof.Machine

/-- `LDA #$44`, Immediate, $A9 (48_load_store.md R220). -/
def execLdaImm (data : Byte) (s : State) : Result := .next (withRead (.immediate data) loadA s)

/-- `LDA $44`, Zero Page, $A5 (48_load_store.md R220). -/
def execLdaZp (lo : Byte) (s : State) : Result := .next (withRead (.memory (.zeroPage lo)) loadA s)

/-- `LDA $44,X`, Zero Page,X, $B5 (48_load_store.md R220). -/
def execLdaZpX (lo : Byte) (s : State) : Result := .next (withRead (.memory (.zeroPageX lo)) loadA s)

/-- `LDA $4400`, Absolute, $AD (48_load_store.md R220). -/
def execLdaAbs (lo hi : Byte) (s : State) : Result := .next (withRead (.memory (.absolute lo hi)) loadA s)

/-- `LDA $4400,X`, Absolute,X, $BD (48_load_store.md R220). -/
def execLdaAbsX (lo hi : Byte) (s : State) : Result := .next (withRead (.memory (.absoluteX lo hi)) loadA s)

/-- `LDA $4400,Y`, Absolute,Y, $B9 (48_load_store.md R220). -/
def execLdaAbsY (lo hi : Byte) (s : State) : Result := .next (withRead (.memory (.absoluteY lo hi)) loadA s)

/-- `LDA ($44,X)`, Indirect,X, $A1 (48_load_store.md R220). -/
def execLdaIndX (lo : Byte) (s : State) : Result := .next (withRead (.memory (.indirectX lo)) loadA s)

/-- `LDA ($44),Y`, Indirect,Y, $B1 (48_load_store.md R220). -/
def execLdaIndY (lo : Byte) (s : State) : Result := .next (withRead (.memory (.indirectY lo)) loadA s)

/-- `LDX #$44`, Immediate, $A2 (48_load_store.md R221). -/
def execLdxImm (data : Byte) (s : State) : Result := .next (withRead (.immediate data) loadX s)

/-- `LDX $44`, Zero Page, $A6 (48_load_store.md R221). -/
def execLdxZp (lo : Byte) (s : State) : Result := .next (withRead (.memory (.zeroPage lo)) loadX s)

/-- `LDX $44,Y`, Zero Page,Y, $B6 (48_load_store.md R221). -/
def execLdxZpY (lo : Byte) (s : State) : Result := .next (withRead (.memory (.zeroPageY lo)) loadX s)

/-- `LDX $4400`, Absolute, $AE (48_load_store.md R221). -/
def execLdxAbs (lo hi : Byte) (s : State) : Result := .next (withRead (.memory (.absolute lo hi)) loadX s)

/-- `LDX $4400,Y`, Absolute,Y, $BE (48_load_store.md R221). -/
def execLdxAbsY (lo hi : Byte) (s : State) : Result := .next (withRead (.memory (.absoluteY lo hi)) loadX s)

/-- `LDY #$44`, Immediate, $A0 (48_load_store.md R222). -/
def execLdyImm (data : Byte) (s : State) : Result := .next (withRead (.immediate data) loadY s)

/-- `LDY $44`, Zero Page, $A4 (48_load_store.md R222). -/
def execLdyZp (lo : Byte) (s : State) : Result := .next (withRead (.memory (.zeroPage lo)) loadY s)

/-- `LDY $44,X`, Zero Page,X, $B4 (48_load_store.md R222). -/
def execLdyZpX (lo : Byte) (s : State) : Result := .next (withRead (.memory (.zeroPageX lo)) loadY s)

/-- `LDY $4400`, Absolute, $AC (48_load_store.md R222). -/
def execLdyAbs (lo hi : Byte) (s : State) : Result := .next (withRead (.memory (.absolute lo hi)) loadY s)

/-- `LDY $4400,X`, Absolute,X, $BC (48_load_store.md R222). -/
def execLdyAbsX (lo hi : Byte) (s : State) : Result := .next (withRead (.memory (.absoluteX lo hi)) loadY s)

/-- `STA $44`, Zero Page, $85 (48_load_store.md R223). -/
def execStaZp (lo : Byte) (s : State) : Result := .next (withWrite (.zeroPage lo) State.a s)

/-- `STA $44,X`, Zero Page,X, $95 (48_load_store.md R223). -/
def execStaZpX (lo : Byte) (s : State) : Result := .next (withWrite (.zeroPageX lo) State.a s)

/-- `STA $4400`, Absolute, $8D (48_load_store.md R223). -/
def execStaAbs (lo hi : Byte) (s : State) : Result := .next (withWrite (.absolute lo hi) State.a s)

/-- `STA $4400,X`, Absolute,X, $9D (48_load_store.md R223). -/
def execStaAbsX (lo hi : Byte) (s : State) : Result := .next (withWrite (.absoluteX lo hi) State.a s)

/-- `STA $4400,Y`, Absolute,Y, $99 (48_load_store.md R223). -/
def execStaAbsY (lo hi : Byte) (s : State) : Result := .next (withWrite (.absoluteY lo hi) State.a s)

/-- `STA ($44,X)`, Indirect,X, $81 (48_load_store.md R223). -/
def execStaIndX (lo : Byte) (s : State) : Result := .next (withWrite (.indirectX lo) State.a s)

/-- `STA ($44),Y`, Indirect,Y, $91 (48_load_store.md R223). -/
def execStaIndY (lo : Byte) (s : State) : Result := .next (withWrite (.indirectY lo) State.a s)

/-- `STX $44`, Zero Page, $86 (48_load_store.md R224). -/
def execStxZp (lo : Byte) (s : State) : Result := .next (withWrite (.zeroPage lo) State.x s)

/-- `STX $44,Y`, Zero Page,Y, $96 (48_load_store.md R224). -/
def execStxZpY (lo : Byte) (s : State) : Result := .next (withWrite (.zeroPageY lo) State.x s)

/-- `STX $4400`, Absolute, $8E (48_load_store.md R224). -/
def execStxAbs (lo hi : Byte) (s : State) : Result := .next (withWrite (.absolute lo hi) State.x s)

/-- `STY $44`, Zero Page, $84 (48_load_store.md R225). -/
def execStyZp (lo : Byte) (s : State) : Result := .next (withWrite (.zeroPage lo) State.y s)

/-- `STY $44,X`, Zero Page,X, $94 (48_load_store.md R225). -/
def execStyZpX (lo : Byte) (s : State) : Result := .next (withWrite (.zeroPageX lo) State.y s)

/-- `STY $4400`, Absolute, $8C (48_load_store.md R225). -/
def execStyAbs (lo hi : Byte) (s : State) : Result := .next (withWrite (.absolute lo hi) State.y s)

end Sys2Proof.Machine
end

