-- ==== Sys2Proof/Machine/Logical.lean ====
section
/-! DEFINITION. AND, ORA and EOR (42_logical.md). -/

namespace Sys2Proof.Machine

/-- AND with its datum (42_logical.md R140). -/
def andAct (m : Byte) (s : State) : State := loadA (s.a &&& m) s

/-- ORA with its datum (42_logical.md R141). -/
def orAct (m : Byte) (s : State) : State := loadA (s.a ||| m) s

/-- EOR with its datum (42_logical.md R142). -/
def eorAct (m : Byte) (s : State) : State := loadA (s.a ^^^ m) s

/-- `AND #$44`, Immediate, $29 (42_logical.md R140). -/
def execAndImm (data : Byte) (s : State) : Result := .next (withRead (.immediate data) andAct s)

/-- `AND $44`, Zero Page, $25 (42_logical.md R140). -/
def execAndZp (lo : Byte) (s : State) : Result := .next (withRead (.memory (.zeroPage lo)) andAct s)

/-- `AND $44,X`, Zero Page,X, $35 (42_logical.md R140). -/
def execAndZpX (lo : Byte) (s : State) : Result := .next (withRead (.memory (.zeroPageX lo)) andAct s)

/-- `AND $4400`, Absolute, $2D (42_logical.md R140). -/
def execAndAbs (lo hi : Byte) (s : State) : Result := .next (withRead (.memory (.absolute lo hi)) andAct s)

/-- `AND $4400,X`, Absolute,X, $3D (42_logical.md R140). -/
def execAndAbsX (lo hi : Byte) (s : State) : Result := .next (withRead (.memory (.absoluteX lo hi)) andAct s)

/-- `AND $4400,Y`, Absolute,Y, $39 (42_logical.md R140). -/
def execAndAbsY (lo hi : Byte) (s : State) : Result := .next (withRead (.memory (.absoluteY lo hi)) andAct s)

/-- `AND ($44,X)`, Indirect,X, $21 (42_logical.md R140). -/
def execAndIndX (lo : Byte) (s : State) : Result := .next (withRead (.memory (.indirectX lo)) andAct s)

/-- `AND ($44),Y`, Indirect,Y, $31 (42_logical.md R140). -/
def execAndIndY (lo : Byte) (s : State) : Result := .next (withRead (.memory (.indirectY lo)) andAct s)

/-- `ORA #$44`, Immediate, $09 (42_logical.md R141). -/
def execOraImm (data : Byte) (s : State) : Result := .next (withRead (.immediate data) orAct s)

/-- `ORA $44`, Zero Page, $05 (42_logical.md R141). -/
def execOraZp (lo : Byte) (s : State) : Result := .next (withRead (.memory (.zeroPage lo)) orAct s)

/-- `ORA $44,X`, Zero Page,X, $15 (42_logical.md R141). -/
def execOraZpX (lo : Byte) (s : State) : Result := .next (withRead (.memory (.zeroPageX lo)) orAct s)

/-- `ORA $4400`, Absolute, $0D (42_logical.md R141). -/
def execOraAbs (lo hi : Byte) (s : State) : Result := .next (withRead (.memory (.absolute lo hi)) orAct s)

/-- `ORA $4400,X`, Absolute,X, $1D (42_logical.md R141). -/
def execOraAbsX (lo hi : Byte) (s : State) : Result := .next (withRead (.memory (.absoluteX lo hi)) orAct s)

/-- `ORA $4400,Y`, Absolute,Y, $19 (42_logical.md R141). -/
def execOraAbsY (lo hi : Byte) (s : State) : Result := .next (withRead (.memory (.absoluteY lo hi)) orAct s)

/-- `ORA ($44,X)`, Indirect,X, $01 (42_logical.md R141). -/
def execOraIndX (lo : Byte) (s : State) : Result := .next (withRead (.memory (.indirectX lo)) orAct s)

/-- `ORA ($44),Y`, Indirect,Y, $11 (42_logical.md R141). -/
def execOraIndY (lo : Byte) (s : State) : Result := .next (withRead (.memory (.indirectY lo)) orAct s)

/-- `EOR #$44`, Immediate, $49 (42_logical.md R142). -/
def execEorImm (data : Byte) (s : State) : Result := .next (withRead (.immediate data) eorAct s)

/-- `EOR $44`, Zero Page, $45 (42_logical.md R142). -/
def execEorZp (lo : Byte) (s : State) : Result := .next (withRead (.memory (.zeroPage lo)) eorAct s)

/-- `EOR $44,X`, Zero Page,X, $55 (42_logical.md R142). -/
def execEorZpX (lo : Byte) (s : State) : Result := .next (withRead (.memory (.zeroPageX lo)) eorAct s)

/-- `EOR $4400`, Absolute, $4D (42_logical.md R142). -/
def execEorAbs (lo hi : Byte) (s : State) : Result := .next (withRead (.memory (.absolute lo hi)) eorAct s)

/-- `EOR $4400,X`, Absolute,X, $5D (42_logical.md R142). -/
def execEorAbsX (lo hi : Byte) (s : State) : Result := .next (withRead (.memory (.absoluteX lo hi)) eorAct s)

/-- `EOR $4400,Y`, Absolute,Y, $59 (42_logical.md R142). -/
def execEorAbsY (lo hi : Byte) (s : State) : Result := .next (withRead (.memory (.absoluteY lo hi)) eorAct s)

/-- `EOR ($44,X)`, Indirect,X, $41 (42_logical.md R142). -/
def execEorIndX (lo : Byte) (s : State) : Result := .next (withRead (.memory (.indirectX lo)) eorAct s)

/-- `EOR ($44),Y`, Indirect,Y, $51 (42_logical.md R142). -/
def execEorIndY (lo : Byte) (s : State) : Result := .next (withRead (.memory (.indirectY lo)) eorAct s)

end Sys2Proof.Machine
end

