-- ==== Sys2Proof/Machine/Shift.lean ====
section
/-! DEFINITION. ASL, LSR, ROL and ROR, on A and on memory (43_shift_rotate.md). -/

namespace Sys2Proof.Machine

/-- `ASL A`, Accumulator, $0A (43_shift_rotate.md R150). -/
def execAslA (s : State) : Result := .next (withAccumulator asl s)

/-- `ASL $44`, Zero Page, $06 (43_shift_rotate.md R150). -/
def execAslZp (lo : Byte) (s : State) : Result := .next (withModify (.zeroPage lo) asl s)

/-- `ASL $44,X`, Zero Page,X, $16 (43_shift_rotate.md R150). -/
def execAslZpX (lo : Byte) (s : State) : Result := .next (withModify (.zeroPageX lo) asl s)

/-- `ASL $4400`, Absolute, $0E (43_shift_rotate.md R150). -/
def execAslAbs (lo hi : Byte) (s : State) : Result := .next (withModify (.absolute lo hi) asl s)

/-- `ASL $4400,X`, Absolute,X, $1E (43_shift_rotate.md R150). -/
def execAslAbsX (lo hi : Byte) (s : State) : Result := .next (withModify (.absoluteX lo hi) asl s)

/-- `LSR A`, Accumulator, $4A (43_shift_rotate.md R151). -/
def execLsrA (s : State) : Result := .next (withAccumulator lsr s)

/-- `LSR $44`, Zero Page, $46 (43_shift_rotate.md R151). -/
def execLsrZp (lo : Byte) (s : State) : Result := .next (withModify (.zeroPage lo) lsr s)

/-- `LSR $44,X`, Zero Page,X, $56 (43_shift_rotate.md R151). -/
def execLsrZpX (lo : Byte) (s : State) : Result := .next (withModify (.zeroPageX lo) lsr s)

/-- `LSR $4400`, Absolute, $4E (43_shift_rotate.md R151). -/
def execLsrAbs (lo hi : Byte) (s : State) : Result := .next (withModify (.absolute lo hi) lsr s)

/-- `LSR $4400,X`, Absolute,X, $5E (43_shift_rotate.md R151). -/
def execLsrAbsX (lo hi : Byte) (s : State) : Result := .next (withModify (.absoluteX lo hi) lsr s)

/-- `ROL A`, Accumulator, $2A (43_shift_rotate.md R152). -/
def execRolA (s : State) : Result := .next (withAccumulator rol s)

/-- `ROL $44`, Zero Page, $26 (43_shift_rotate.md R152). -/
def execRolZp (lo : Byte) (s : State) : Result := .next (withModify (.zeroPage lo) rol s)

/-- `ROL $44,X`, Zero Page,X, $36 (43_shift_rotate.md R152). -/
def execRolZpX (lo : Byte) (s : State) : Result := .next (withModify (.zeroPageX lo) rol s)

/-- `ROL $4400`, Absolute, $2E (43_shift_rotate.md R152). -/
def execRolAbs (lo hi : Byte) (s : State) : Result := .next (withModify (.absolute lo hi) rol s)

/-- `ROL $4400,X`, Absolute,X, $3E (43_shift_rotate.md R152). -/
def execRolAbsX (lo hi : Byte) (s : State) : Result := .next (withModify (.absoluteX lo hi) rol s)

/-- `ROR A`, Accumulator, $6A (43_shift_rotate.md R153). -/
def execRorA (s : State) : Result := .next (withAccumulator ror s)

/-- `ROR $44`, Zero Page, $66 (43_shift_rotate.md R153). -/
def execRorZp (lo : Byte) (s : State) : Result := .next (withModify (.zeroPage lo) ror s)

/-- `ROR $44,X`, Zero Page,X, $76 (43_shift_rotate.md R153). -/
def execRorZpX (lo : Byte) (s : State) : Result := .next (withModify (.zeroPageX lo) ror s)

/-- `ROR $4400`, Absolute, $6E (43_shift_rotate.md R153). -/
def execRorAbs (lo hi : Byte) (s : State) : Result := .next (withModify (.absolute lo hi) ror s)

/-- `ROR $4400,X`, Absolute,X, $7E (43_shift_rotate.md R153). -/
def execRorAbsX (lo hi : Byte) (s : State) : Result := .next (withModify (.absoluteX lo hi) ror s)

end Sys2Proof.Machine
end

