-- ==== Sys2Proof/Machine/Transfer.lean ====
section
/-! DEFINITION. Register transfers, stack instructions and NOP (49_transfer_stack_nop.md). -/

namespace Sys2Proof.Machine

/-- `TAX`, Implied, $AA (49_transfer_stack_nop.md R230). -/
def execTax (s : State) : Result := .next (withImplied (fun s1 => loadX s1.a s1) s)

/-- `TXA`, Implied, $8A (49_transfer_stack_nop.md R231). -/
def execTxa (s : State) : Result := .next (withImplied (fun s1 => loadA s1.x s1) s)

/-- `TAY`, Implied, $A8 (49_transfer_stack_nop.md R232). -/
def execTay (s : State) : Result := .next (withImplied (fun s1 => loadY s1.a s1) s)

/-- `TYA`, Implied, $98 (49_transfer_stack_nop.md R233). -/
def execTya (s : State) : Result := .next (withImplied (fun s1 => loadA s1.y s1) s)

/-- `TXS`, Implied, $9A (49_transfer_stack_nop.md R235). -/
def execTxs (s : State) : Result := .next (withImplied (fun s1 => setSp s1.x s1) s)

/-- `TSX`, Implied, $BA (49_transfer_stack_nop.md R234). -/
def execTsx (s : State) : Result := .next (withImplied (fun s1 => loadX s1.sp s1) s)

/-- `PHA`, Implied, $48 (49_transfer_stack_nop.md R236). -/
def execPha (s : State) : Result := .next (withImplied (fun s1 => push s1.a s1) s)

/-- `PLA`, Implied, $68 (49_transfer_stack_nop.md R237). -/
def execPla (s : State) : Result :=
  .next (withImplied (fun s1 => let r := pull (dummyRead (stackAddr s1.sp) s1); loadA r.1 r.2) s)

/-- `PHP`, Implied, $08 (49_transfer_stack_nop.md R238). -/
def execPhp (s : State) : Result := .next (withImplied (fun s1 => push (s1.p.toByte ||| 0x10) s1) s)

/-- `PLP`, Implied, $28 (49_transfer_stack_nop.md R239). -/
def execPlp (s : State) : Result :=
  .next (withImplied (fun s1 => let r := pull (dummyRead (stackAddr s1.sp) s1); setP (Status.ofByte r.1) r.2) s)

/-- `NOP`, Implied, $EA (49_transfer_stack_nop.md R240). -/
def execNop (s : State) : Result := .next (withImplied id s)

end Sys2Proof.Machine
end

