-- ==== Sys2Proof/Machine/Dispatch.lean ====
section
/-! DEFINITION. One arm for each instruction, in the order of the opcode table (30_encoding.md R96). -/

namespace Sys2Proof.Machine

def exec (i : Instr) (s : State) : Host.Outcome State Fault Refusal :=
  match i with
  | .adcImm data => Sys2Proof.Machine.execAdcImm data s
  | .adcZp lo => Sys2Proof.Machine.execAdcZp lo s
  | .adcZpX lo => Sys2Proof.Machine.execAdcZpX lo s
  | .adcAbs lo hi => Sys2Proof.Machine.execAdcAbs lo hi s
  | .adcAbsX lo hi => Sys2Proof.Machine.execAdcAbsX lo hi s
  | .adcAbsY lo hi => Sys2Proof.Machine.execAdcAbsY lo hi s
  | .adcIndX lo => Sys2Proof.Machine.execAdcIndX lo s
  | .adcIndY lo => Sys2Proof.Machine.execAdcIndY lo s
  | .sbcImm data => Sys2Proof.Machine.execSbcImm data s
  | .sbcZp lo => Sys2Proof.Machine.execSbcZp lo s
  | .sbcZpX lo => Sys2Proof.Machine.execSbcZpX lo s
  | .sbcAbs lo hi => Sys2Proof.Machine.execSbcAbs lo hi s
  | .sbcAbsX lo hi => Sys2Proof.Machine.execSbcAbsX lo hi s
  | .sbcAbsY lo hi => Sys2Proof.Machine.execSbcAbsY lo hi s
  | .sbcIndX lo => Sys2Proof.Machine.execSbcIndX lo s
  | .sbcIndY lo => Sys2Proof.Machine.execSbcIndY lo s
  | .andImm data => Sys2Proof.Machine.execAndImm data s
  | .andZp lo => Sys2Proof.Machine.execAndZp lo s
  | .andZpX lo => Sys2Proof.Machine.execAndZpX lo s
  | .andAbs lo hi => Sys2Proof.Machine.execAndAbs lo hi s
  | .andAbsX lo hi => Sys2Proof.Machine.execAndAbsX lo hi s
  | .andAbsY lo hi => Sys2Proof.Machine.execAndAbsY lo hi s
  | .andIndX lo => Sys2Proof.Machine.execAndIndX lo s
  | .andIndY lo => Sys2Proof.Machine.execAndIndY lo s
  | .oraImm data => Sys2Proof.Machine.execOraImm data s
  | .oraZp lo => Sys2Proof.Machine.execOraZp lo s
  | .oraZpX lo => Sys2Proof.Machine.execOraZpX lo s
  | .oraAbs lo hi => Sys2Proof.Machine.execOraAbs lo hi s
  | .oraAbsX lo hi => Sys2Proof.Machine.execOraAbsX lo hi s
  | .oraAbsY lo hi => Sys2Proof.Machine.execOraAbsY lo hi s
  | .oraIndX lo => Sys2Proof.Machine.execOraIndX lo s
  | .oraIndY lo => Sys2Proof.Machine.execOraIndY lo s
  | .eorImm data => Sys2Proof.Machine.execEorImm data s
  | .eorZp lo => Sys2Proof.Machine.execEorZp lo s
  | .eorZpX lo => Sys2Proof.Machine.execEorZpX lo s
  | .eorAbs lo hi => Sys2Proof.Machine.execEorAbs lo hi s
  | .eorAbsX lo hi => Sys2Proof.Machine.execEorAbsX lo hi s
  | .eorAbsY lo hi => Sys2Proof.Machine.execEorAbsY lo hi s
  | .eorIndX lo => Sys2Proof.Machine.execEorIndX lo s
  | .eorIndY lo => Sys2Proof.Machine.execEorIndY lo s
  | .aslA => Sys2Proof.Machine.execAslA s
  | .aslZp lo => Sys2Proof.Machine.execAslZp lo s
  | .aslZpX lo => Sys2Proof.Machine.execAslZpX lo s
  | .aslAbs lo hi => Sys2Proof.Machine.execAslAbs lo hi s
  | .aslAbsX lo hi => Sys2Proof.Machine.execAslAbsX lo hi s
  | .lsrA => Sys2Proof.Machine.execLsrA s
  | .lsrZp lo => Sys2Proof.Machine.execLsrZp lo s
  | .lsrZpX lo => Sys2Proof.Machine.execLsrZpX lo s
  | .lsrAbs lo hi => Sys2Proof.Machine.execLsrAbs lo hi s
  | .lsrAbsX lo hi => Sys2Proof.Machine.execLsrAbsX lo hi s
  | .rolA => Sys2Proof.Machine.execRolA s
  | .rolZp lo => Sys2Proof.Machine.execRolZp lo s
  | .rolZpX lo => Sys2Proof.Machine.execRolZpX lo s
  | .rolAbs lo hi => Sys2Proof.Machine.execRolAbs lo hi s
  | .rolAbsX lo hi => Sys2Proof.Machine.execRolAbsX lo hi s
  | .rorA => Sys2Proof.Machine.execRorA s
  | .rorZp lo => Sys2Proof.Machine.execRorZp lo s
  | .rorZpX lo => Sys2Proof.Machine.execRorZpX lo s
  | .rorAbs lo hi => Sys2Proof.Machine.execRorAbs lo hi s
  | .rorAbsX lo hi => Sys2Proof.Machine.execRorAbsX lo hi s
  | .bcc off => Sys2Proof.Machine.execBcc off s
  | .bcs off => Sys2Proof.Machine.execBcs off s
  | .beq off => Sys2Proof.Machine.execBeq off s
  | .bne off => Sys2Proof.Machine.execBne off s
  | .bvc off => Sys2Proof.Machine.execBvc off s
  | .bvs off => Sys2Proof.Machine.execBvs off s
  | .bpl off => Sys2Proof.Machine.execBpl off s
  | .bmi off => Sys2Proof.Machine.execBmi off s
  | .bitZp lo => Sys2Proof.Machine.execBitZp lo s
  | .bitAbs lo hi => Sys2Proof.Machine.execBitAbs lo hi s
  | .jmpAbs lo hi => Sys2Proof.Machine.execJmpAbs lo hi s
  | .jmpInd lo hi => Sys2Proof.Machine.execJmpInd lo hi s
  | .jsr lo hi => Sys2Proof.Machine.execJsr lo hi s
  | .rts => Sys2Proof.Machine.execRts s
  | .brk => Sys2Proof.Machine.execBrk s
  | .rti => Sys2Proof.Machine.execRti s
  | .cmpImm data => Sys2Proof.Machine.execCmpImm data s
  | .cmpZp lo => Sys2Proof.Machine.execCmpZp lo s
  | .cmpZpX lo => Sys2Proof.Machine.execCmpZpX lo s
  | .cmpAbs lo hi => Sys2Proof.Machine.execCmpAbs lo hi s
  | .cmpAbsX lo hi => Sys2Proof.Machine.execCmpAbsX lo hi s
  | .cmpAbsY lo hi => Sys2Proof.Machine.execCmpAbsY lo hi s
  | .cmpIndX lo => Sys2Proof.Machine.execCmpIndX lo s
  | .cmpIndY lo => Sys2Proof.Machine.execCmpIndY lo s
  | .cpxImm data => Sys2Proof.Machine.execCpxImm data s
  | .cpxZp lo => Sys2Proof.Machine.execCpxZp lo s
  | .cpxAbs lo hi => Sys2Proof.Machine.execCpxAbs lo hi s
  | .cpyImm data => Sys2Proof.Machine.execCpyImm data s
  | .cpyZp lo => Sys2Proof.Machine.execCpyZp lo s
  | .cpyAbs lo hi => Sys2Proof.Machine.execCpyAbs lo hi s
  | .incZp lo => Sys2Proof.Machine.execIncZp lo s
  | .incZpX lo => Sys2Proof.Machine.execIncZpX lo s
  | .incAbs lo hi => Sys2Proof.Machine.execIncAbs lo hi s
  | .incAbsX lo hi => Sys2Proof.Machine.execIncAbsX lo hi s
  | .decZp lo => Sys2Proof.Machine.execDecZp lo s
  | .decZpX lo => Sys2Proof.Machine.execDecZpX lo s
  | .decAbs lo hi => Sys2Proof.Machine.execDecAbs lo hi s
  | .decAbsX lo hi => Sys2Proof.Machine.execDecAbsX lo hi s
  | .inx => Sys2Proof.Machine.execInx s
  | .dex => Sys2Proof.Machine.execDex s
  | .iny => Sys2Proof.Machine.execIny s
  | .dey => Sys2Proof.Machine.execDey s
  | .clc => Sys2Proof.Machine.execClc s
  | .sec => Sys2Proof.Machine.execSec s
  | .cli => Sys2Proof.Machine.execCli s
  | .sei => Sys2Proof.Machine.execSei s
  | .cld => Sys2Proof.Machine.execCld s
  | .sed => Sys2Proof.Machine.execSed s
  | .clv => Sys2Proof.Machine.execClv s
  | .ldaImm data => Sys2Proof.Machine.execLdaImm data s
  | .ldaZp lo => Sys2Proof.Machine.execLdaZp lo s
  | .ldaZpX lo => Sys2Proof.Machine.execLdaZpX lo s
  | .ldaAbs lo hi => Sys2Proof.Machine.execLdaAbs lo hi s
  | .ldaAbsX lo hi => Sys2Proof.Machine.execLdaAbsX lo hi s
  | .ldaAbsY lo hi => Sys2Proof.Machine.execLdaAbsY lo hi s
  | .ldaIndX lo => Sys2Proof.Machine.execLdaIndX lo s
  | .ldaIndY lo => Sys2Proof.Machine.execLdaIndY lo s
  | .ldxImm data => Sys2Proof.Machine.execLdxImm data s
  | .ldxZp lo => Sys2Proof.Machine.execLdxZp lo s
  | .ldxZpY lo => Sys2Proof.Machine.execLdxZpY lo s
  | .ldxAbs lo hi => Sys2Proof.Machine.execLdxAbs lo hi s
  | .ldxAbsY lo hi => Sys2Proof.Machine.execLdxAbsY lo hi s
  | .ldyImm data => Sys2Proof.Machine.execLdyImm data s
  | .ldyZp lo => Sys2Proof.Machine.execLdyZp lo s
  | .ldyZpX lo => Sys2Proof.Machine.execLdyZpX lo s
  | .ldyAbs lo hi => Sys2Proof.Machine.execLdyAbs lo hi s
  | .ldyAbsX lo hi => Sys2Proof.Machine.execLdyAbsX lo hi s
  | .staZp lo => Sys2Proof.Machine.execStaZp lo s
  | .staZpX lo => Sys2Proof.Machine.execStaZpX lo s
  | .staAbs lo hi => Sys2Proof.Machine.execStaAbs lo hi s
  | .staAbsX lo hi => Sys2Proof.Machine.execStaAbsX lo hi s
  | .staAbsY lo hi => Sys2Proof.Machine.execStaAbsY lo hi s
  | .staIndX lo => Sys2Proof.Machine.execStaIndX lo s
  | .staIndY lo => Sys2Proof.Machine.execStaIndY lo s
  | .stxZp lo => Sys2Proof.Machine.execStxZp lo s
  | .stxZpY lo => Sys2Proof.Machine.execStxZpY lo s
  | .stxAbs lo hi => Sys2Proof.Machine.execStxAbs lo hi s
  | .styZp lo => Sys2Proof.Machine.execStyZp lo s
  | .styZpX lo => Sys2Proof.Machine.execStyZpX lo s
  | .styAbs lo hi => Sys2Proof.Machine.execStyAbs lo hi s
  | .tax => Sys2Proof.Machine.execTax s
  | .txa => Sys2Proof.Machine.execTxa s
  | .tay => Sys2Proof.Machine.execTay s
  | .tya => Sys2Proof.Machine.execTya s
  | .txs => Sys2Proof.Machine.execTxs s
  | .tsx => Sys2Proof.Machine.execTsx s
  | .pha => Sys2Proof.Machine.execPha s
  | .pla => Sys2Proof.Machine.execPla s
  | .php => Sys2Proof.Machine.execPhp s
  | .plp => Sys2Proof.Machine.execPlp s
  | .nop => Sys2Proof.Machine.execNop s

end Sys2Proof.Machine
end

