-- ==== Sys2Proof/Machine/Step.lean ====
section
/-! DEFINITION. One step: one instruction or one interrupt sequence (00_scope.md R6, 92 D17). -/

namespace Sys2Proof.Machine

/-- One step of the machine (00_scope.md R6; 60_exceptions.md R260, R266; 30_encoding.md R98). -/
def step (s : State) : Host.Outcome State Fault Refusal :=
  match boundary (atBoundary s) with
  | .take kind => .next (interruptEntry kind (atBoundary s))
  | .brkLost => .fault .brkInterrupted
  | .run =>
    match fetchInstr (atBoundary s) with
    | .ok i => exec i (startInstr (atBoundary s))
    | .error op => .refused (.undocumented op)

/-- `s` with an instruction of the opcode table's numbering where `step` fetches its next one, and no interrupt to be taken
before it (log 21). -/
def State.withFetchWord (s : State) (nbits w : Nat) : State :=
  plantBytes s.pc (tableBytes nbits w) (quietLines s)

end Sys2Proof.Machine
end

