-- ==== Sys2Proof/Assembler.lean ====
section
/-! DEFINITION. The assembler syntax of 30_encoding.md R100, as the text of an instruction at an address. -/

namespace Sys2Proof

open Sys2Proof.Machine

/-- A hexadecimal digit (00_scope.md R8). -/
def hexDigit (n : Nat) : Char :=
  ['0', '1', '2', '3', '4', '5', '6', '7', '8', '9', 'A', 'B', 'C', 'D', 'E', 'F'].getD n '?'

/-- An 8-bit value, `$` and two digits (30_encoding.md R100). -/
def hexByte (b : Byte) : List Char := ['$', hexDigit (b.toNat / 16), hexDigit (b.toNat % 16)]

/-- A 16-bit value, `$` and four digits (30_encoding.md R100). -/
def hexAddr (h l : Byte) : List Char := hexByte h ++ (hexByte l).drop 1

/-- The three upper-case letters of a mnemonic (30_encoding.md R100). -/
def Mnemonic.letters : Mnemonic → List Char
  | .ADC => ['A', 'D', 'C'] | .SBC => ['S', 'B', 'C'] | .AND => ['A', 'N', 'D'] | .ORA => ['O', 'R', 'A']
  | .EOR => ['E', 'O', 'R'] | .ASL => ['A', 'S', 'L'] | .LSR => ['L', 'S', 'R'] | .ROL => ['R', 'O', 'L']
  | .ROR => ['R', 'O', 'R'] | .BCC => ['B', 'C', 'C'] | .BCS => ['B', 'C', 'S'] | .BEQ => ['B', 'E', 'Q']
  | .BNE => ['B', 'N', 'E'] | .BVC => ['B', 'V', 'C'] | .BVS => ['B', 'V', 'S'] | .BPL => ['B', 'P', 'L']
  | .BMI => ['B', 'M', 'I'] | .BIT => ['B', 'I', 'T'] | .JMP => ['J', 'M', 'P'] | .JSR => ['J', 'S', 'R']
  | .RTS => ['R', 'T', 'S'] | .BRK => ['B', 'R', 'K'] | .RTI => ['R', 'T', 'I'] | .CMP => ['C', 'M', 'P']
  | .CPX => ['C', 'P', 'X'] | .CPY => ['C', 'P', 'Y'] | .INC => ['I', 'N', 'C'] | .DEC => ['D', 'E', 'C']
  | .INX => ['I', 'N', 'X'] | .DEX => ['D', 'E', 'X'] | .INY => ['I', 'N', 'Y'] | .DEY => ['D', 'E', 'Y']
  | .CLC => ['C', 'L', 'C'] | .SEC => ['S', 'E', 'C'] | .CLI => ['C', 'L', 'I'] | .SEI => ['S', 'E', 'I']
  | .CLD => ['C', 'L', 'D'] | .SED => ['S', 'E', 'D'] | .CLV => ['C', 'L', 'V'] | .LDA => ['L', 'D', 'A']
  | .LDX => ['L', 'D', 'X'] | .LDY => ['L', 'D', 'Y'] | .STA => ['S', 'T', 'A'] | .STX => ['S', 'T', 'X']
  | .STY => ['S', 'T', 'Y'] | .TAX => ['T', 'A', 'X'] | .TXA => ['T', 'X', 'A'] | .TAY => ['T', 'A', 'Y']
  | .TYA => ['T', 'Y', 'A'] | .TXS => ['T', 'X', 'S'] | .TSX => ['T', 'S', 'X'] | .PHA => ['P', 'H', 'A']
  | .PLA => ['P', 'L', 'A'] | .PHP => ['P', 'H', 'P'] | .PLP => ['P', 'L', 'P'] | .NOP => ['N', 'O', 'P']

/-- The operand's text, by mode. A branch is written with its target address (92 D19). -/
def operandText (opaddr : Addr) : Mode → List Byte → List Char
  | .accumulator, [] => [' ', 'A']
  | .immediate, [v] => [' ', '#'] ++ hexByte v
  | .zeroPage, [l] => [' '] ++ hexByte l
  | .zeroPageX, [l] => [' '] ++ hexByte l ++ [',', 'X']
  | .zeroPageY, [l] => [' '] ++ hexByte l ++ [',', 'Y']
  | .absolute, [l, h] => [' '] ++ hexAddr h l
  | .absoluteX, [l, h] => [' '] ++ hexAddr h l ++ [',', 'X']
  | .absoluteY, [l, h] => [' '] ++ hexAddr h l ++ [',', 'Y']
  | .indirectX, [l] => [' ', '('] ++ hexByte l ++ [',', 'X', ')']
  | .indirectY, [l] => [' ', '('] ++ hexByte l ++ [')', ',', 'Y']
  | .indirect, [l, h] => [' ', '('] ++ hexAddr h l ++ [')']
  | .relative, [off] =>
    let target := addSx (opaddr + 2) off
    [' '] ++ hexAddr (hiByte target) (loByte target)
  | _, _ => []

/-- The text of an instruction whose opcode byte lies at an address (30_encoding.md R100). -/
def Instr.asmText (opaddr : Addr) (i : Instr) : List Char := i.mnemonic.letters ++ operandText opaddr i.mode i.operands

end Sys2Proof
end

