-- ==== Sys2Proof/Safety.lean ====
section
/-! DEFINITION. Runs, and what counts as a safe one: no fault and no refusal. The hardware itself raises none
(60_exceptions.md R263); a fault or a refusal says that the spec gives the rest of the run no meaning (00_scope.md R7). -/

namespace Sys2Proof.Safety

open Sys2Proof.Machine

/-- The outcome is a next state. -/
def goesOn : Host.Outcome State Fault Refusal → Bool
  | .next _ => true
  | .fault _ | .refused _ => false

/-- The first `n` steps from `s` neither fault nor are refused. -/
def safeFor (n : Nat) (s : State) : Bool := goesOn (Sys2Proof.core.run n s)

/-- A run of at most `n` steps that ends where `done` holds: `done` is the parameter `EndOfRun` (00_scope.md R4, 92 D11). -/
def runUntil (done : State → Bool) : Nat → State → Host.Outcome State Fault Refusal
  | 0, s => .next s
  | n + 1, s =>
    if done s then .next s
    else match step s with
      | .next t => runUntil done n t
      | .fault r => .fault r
      | .refused r => .refused r

end Sys2Proof.Safety
end

