-- ==== Sys2Proof/Certificates/Slice0/Obligations.lean ====
section
/-! DEFINITION. The statements for the provers. `Sys2Proof.Spec` holds the terms they are written in: addresses, bytes,
flags and bus accesses as the spec's rules give them, in plain arithmetic and not through the model's operations; only
`busValue`, `Memory.read` and `targetAt`, the model's read of a byte, are shared with the meanings. -/

namespace Sys2Proof.Spec

open Sys2Proof.Machine

/-- `h:l` (00_scope.md R9). -/
def word (h l : Byte) : Addr := BitVec.ofNat 16 (256 * h.toNat + l.toNat)

/-- The zero-page address of a sum of bytes: the carry is ignored (20_memory.md R61, 00_scope.md R11). -/
def zp (n : Nat) : Addr := BitVec.ofNat 16 (n % 256)

/-- The address that a value of S designates (10_state.md R23). -/
def stk (s : Byte) : Addr := BitVec.ofNat 16 (256 + s.toNat)

/-- The high and low byte of an address (00_scope.md R9). -/
def high (w : Addr) : Byte := BitVec.ofNat 8 (w.toNat / 256)

/-- The low byte of an address (00_scope.md R9). -/
def low (w : Addr) : Byte := BitVec.ofNat 8 (w.toNat % 256)

/-- N and Z from a result (10_state.md R34). -/
def nz (p : Status) (r : Byte) : Status := { p with n := decide (128 ≤ r.toNat), z := decide (r.toNat = 0) }

/-- P as a byte, N V 1 B D I Z C (10_state.md R24, R25). -/
def pByte (p : Status) : Byte :=
  BitVec.ofNat 8 (128 * p.n.toNat + 64 * p.v.toNat + 32 + 16 * p.b.toNat + 8 * p.d.toNat + 4 * p.i.toNat +
    2 * p.z.toNat + p.c.toNat)

/-- The flags that a pulled byte gives (10_state.md R24, R35 "all"). -/
def flagsOf (v : Byte) : Status where
  n := v.toNat.testBit 7
  v := v.toNat.testBit 6
  b := v.toNat.testBit 4
  d := v.toNat.testBit 3
  i := v.toNat.testBit 2
  z := v.toNat.testBit 1
  c := v.toNat.testBit 0

/-- The read made in clock `k`, counted from 0, of a step that begins in `s` (20_memory.md R66). -/
def rd (s : State) (k : Nat) (a : Addr) : BusCycle := ⟨.read, a, busValue s (s.clock + k) a⟩

/-- The dummy read made in clock `k` of a step that begins in `s` (20_memory.md R67). -/
def dr (s : State) (k : Nat) (a : Addr) : BusCycle := ⟨.dummyRead, a, busValue s (s.clock + k) a⟩

/-- Does the low-byte addition of an index carry (40_addressing_modes.md R123)? -/
def crosses (low index : Byte) : Bool := decide (255 < low.toNat + index.toNat)

/-- The effective address of a memory operand of the instruction whose opcode is at PC in `s`
(40_addressing_modes.md R113 to R116, R119, R120). -/
def ea (s : State) : MemOperand → Addr
  | .zeroPage lo => zp lo.toNat
  | .zeroPageX lo => zp (lo.toNat + s.x.toNat)
  | .zeroPageY lo => zp (lo.toNat + s.y.toNat)
  | .absolute lo hi => word hi lo
  | .absoluteX lo hi => word hi lo + BitVec.ofNat 16 s.x.toNat
  | .absoluteY lo hi => word hi lo + BitVec.ofNat 16 s.y.toNat
  | .indirectX lo =>
    word (busValue s (s.clock + 4) (zp (lo.toNat + s.x.toNat + 1))) (busValue s (s.clock + 3) (zp (lo.toNat + s.x.toNat)))
  | .indirectY lo =>
    word (busValue s (s.clock + 3) (zp (lo.toNat + 1))) (busValue s (s.clock + 2) (zp lo.toNat)) +
      BitVec.ofNat 16 s.y.toNat

/-- How many operand bytes a mode has (30_encoding.md R91). -/
def operandLength : MemOperand → Addr
  | .zeroPage _ | .zeroPageX _ | .zeroPageY _ | .indirectX _ | .indirectY _ => 1
  | .absolute _ _ | .absoluteX _ _ | .absoluteY _ _ => 2

/-- The accesses from the opcode fetch up to the forming of the address (the cycle tables of 40_addressing_modes.md). -/
def access (s : State) : MemOperand → List BusCycle
  | .zeroPage _ => [rd s 0 s.pc, rd s 1 (s.pc + 1)]
  | .zeroPageX _ | .zeroPageY _ => [rd s 0 s.pc, rd s 1 (s.pc + 1), dr s 2 (s.pc + 1)]
  | .absolute _ _ => [rd s 0 s.pc, rd s 1 (s.pc + 1), rd s 2 (s.pc + 2)]
  | .absoluteX lo _ =>
    [rd s 0 s.pc, rd s 1 (s.pc + 1), rd s 2 (s.pc + 2)] ++ if crosses lo s.x then [dr s 3 (s.pc + 2)] else []
  | .absoluteY lo _ =>
    [rd s 0 s.pc, rd s 1 (s.pc + 1), rd s 2 (s.pc + 2)] ++ if crosses lo s.y then [dr s 3 (s.pc + 2)] else []
  | .indirectX lo =>
    [rd s 0 s.pc, rd s 1 (s.pc + 1), dr s 2 (s.pc + 1), rd s 3 (zp (lo.toNat + s.x.toNat)),
      rd s 4 (zp (lo.toNat + s.x.toNat + 1))]
  | .indirectY lo =>
    [rd s 0 s.pc, rd s 1 (s.pc + 1), rd s 2 (zp lo.toNat), rd s 3 (zp (lo.toNat + 1))] ++
      if crosses (busValue s (s.clock + 2) (zp lo.toNat)) s.y then [dr s 4 (zp (lo.toNat + 1))] else []

/-- The datum of a read operand: the immediate byte, or what the bus gives in the clock after the address is formed
(40_addressing_modes.md R112, R122). -/
def datum (s : State) : ReadOperand → Byte
  | .immediate data => data
  | .memory m => busValue s (s.clock + (access s m).length) (ea s m)

/-- The accesses of an instruction that uses its operand as a datum: an immediate byte is fetched, a memory operand is read
once its address is formed (40_addressing_modes.md R112, R122 "read"). -/
def readAccesses (s : State) : ReadOperand → List BusCycle
  | .immediate _ => [rd s 0 s.pc, rd s 1 (s.pc + 1)]
  | .memory m => access s m ++ [rd s (access s m).length (ea s m)]

/-- The accesses of a store of `v`: one write and no read of the address (40_addressing_modes.md R122 "write"). -/
def storeAccesses (s : State) (m : MemOperand) (v : Byte) : List BusCycle := access s m ++ [⟨.write, ea s m, v⟩]

/-- The accesses of a read-modify-write: the byte is read, some byte `g` is written, then the result
(40_addressing_modes.md R122 "read-modify-write"). -/
def modifyAccesses (s : State) (m : MemOperand) (g r : Byte) : List BusCycle :=
  access s m ++ [rd s (access s m).length (ea s m), ⟨.dummyWrite, ea s m, g⟩, ⟨.write, ea s m, r⟩]

/-- The accesses of the Accumulator instructions and of the two-clock Implied ones (40_addressing_modes.md R111, R117). -/
def twoAccesses (s : State) : List BusCycle := [rd s 0 s.pc, dr s 1 (s.pc + 1)]

/-- The accesses of a pull instruction (40_addressing_modes.md R117 "StackPull", conflict C11). -/
def pullAccesses (s : State) : List BusCycle :=
  [rd s 0 s.pc, dr s 1 (s.pc + 1), dr s 2 (stk s.sp), rd s 3 (stk (s.sp + 1))]

/-- What memory holds after some stores, the latest first: a store shows where plain memory answers
(20_memory.md R65). That one elsewhere changes no byte of memory, and which addresses are plain memory, is the model's choice
(logs 5 to 7). -/
def stored (s : State) : List (Addr × Byte) → Nat → Byte
  | [], n => Memory.read s.mem n
  | (a, v) :: rest, n => if n = a.toNat ∧ targetAt s.board a = .memory then v else stored s rest n

/-- PC after an instruction that does not set it (10_state.md R36). -/
def next (s : State) (i : Instr) : Addr := s.pc + BitVec.ofNat 16 i.length

/-- The registers of `t` are the ones given, and memory is that of `s` with the stores given, the latest first. -/
def Regs (s t : State) (a x y sp : Byte) (p : Status) (pc : Addr) (stores : List (Addr × Byte)) : Prop :=
  t.a = a ∧ t.x = x ∧ t.y = y ∧ t.sp = sp ∧ t.p = p ∧ t.pc = pc ∧ ∀ n, Memory.read t.mem n = stored s stores n

/-- The board, the input lines and the mark of a BRK are those of `s`. -/
def Rest (s t : State) : Prop :=
  t.board = s.board ∧ t.resetReq = s.resetReq ∧ t.nmiPending = s.nmiPending ∧ t.irqLine = s.irqLine ∧
    t.afterBrk = s.afterBrk ∧ t.env = s.env

/-- From `s` to `t` exactly these bus accesses were made, one clock each (20_memory.md R66). -/
def Made (s t : State) (l : List BusCycle) : Prop := t.cycles = s.cycles ++ l ∧ t.clock = s.clock + l.length

/-- The instruction completes, with these registers, stores and bus accesses, and changes nothing else. -/
def Yields (i : Instr) (s : State) (a x y sp : Byte) (p : Status) (pc : Addr) (stores : List (Addr × Byte))
    (l : List BusCycle) : Prop :=
  ∃ t, exec i s = .next t ∧ Regs s t a x y sp p pc stores ∧ Rest s t ∧ Made s t l

/-- Result of a logical instruction (42_logical.md R140 to R142). -/
def logical : Mnemonic → Byte → Byte → Option Byte
  | .AND, a, m => some (BitVec.ofNat 8 (a.toNat &&& m.toNat))
  | .ORA, a, m => some (BitVec.ofNat 8 (a.toNat ||| m.toNat))
  | .EOR, a, m => some (BitVec.ofNat 8 (a.toNat ^^^ m.toNat))
  | _, _, _ => none

/-- Result and carry out of a shift or rotate of `v` with carry in `c` (43_shift_rotate.md R150 to R153). -/
def shifted : Mnemonic → Nat → Bool → Option (Nat × Bool)
  | .ASL, v, _ => some (2 * v % 256, decide (128 ≤ v))
  | .LSR, v, _ => some (v / 2, decide (v % 2 = 1))
  | .ROL, v, c => some (2 * v % 256 + c.toNat, decide (128 ≤ v))
  | .ROR, v, c => some (v / 2 + 128 * c.toNat, decide (v % 2 = 1))
  | _, _, _ => none

/-- Result of INC or DEC on memory (47_incdec_flagops.md R200, R201). -/
def counted : Mnemonic → Nat → Option Nat
  | .INC, v => some ((v + 1) % 256)
  | .DEC, v => some ((v + 255) % 256)
  | _, _ => none

/-- The condition of a branch (44_branch_bittest.md R161 to R168). -/
def branchCond : Mnemonic → Status → Option Bool
  | .BCC, p => some (!p.c)
  | .BCS, p => some p.c
  | .BEQ, p => some p.z
  | .BNE, p => some (!p.z)
  | .BVC, p => some (!p.v)
  | .BVS, p => some p.v
  | .BPL, p => some (!p.n)
  | .BMI, p => some p.n
  | _, _ => none

/-- The target of a branch (40_addressing_modes.md R118). -/
def branchTarget (s : State) (off : Byte) : Addr := BitVec.ofInt 16 (s.pc.toNat + 2 + off.toInt)

/-- The register that a compare compares (46_compare.md R190 to R192). -/
def compared : Mnemonic → State → Option Byte
  | .CMP, s => some s.a
  | .CPX, s => some s.x
  | .CPY, s => some s.y
  | _, _ => none

/-- The register that a store stores (48_load_store.md R223 to R225). -/
def storedReg : Mnemonic → State → Option Byte
  | .STA, s => some s.a
  | .STX, s => some s.x
  | .STY, s => some s.y
  | _, _ => none

/-- P after a flag instruction (47_incdec_flagops.md R210 to R216). -/
def flagged : Mnemonic → Status → Option Status
  | .CLC, p => some { p with c := false }
  | .SEC, p => some { p with c := true }
  | .CLI, p => some { p with i := false }
  | .SEI, p => some { p with i := true }
  | .CLD, p => some { p with d := false }
  | .SED, p => some { p with d := true }
  | .CLV, p => some { p with v := false }
  | _, _ => none

/-- Clocks beyond the CLK column (70_reset_and_hazards.md R300). -/
def extraClocks (i : Instr) (s : State) : Nat :=
  match i.extraClocks with
  | .never => 0
  | .pageCross =>
    match i.memOperand? with
    | some (.absoluteX lo _) => (crosses lo s.x).toNat
    | some (.absoluteY lo _) => (crosses lo s.y).toNat
    | some (.indirectY lo) => (crosses (busValue s (s.clock + 2) (zp lo.toNat)) s.y).toNat
    | _ => 0
  | .branch =>
    match branchCond i.mnemonic s.p, i.operands with
    | some true, [off] => if high (branchTarget s off) = high (s.pc + 2) then 1 else 2
    | _, _ => 0

/-- Does the instruction write A (10_state.md R21)? -/
def writesA (i : Instr) : Bool :=
  [Mnemonic.ADC, .SBC, .AND, .ORA, .EOR, .LDA, .TXA, .TYA, .PLA].contains i.mnemonic || i.mode == .accumulator

/-- Does the instruction write X (10_state.md R21)? -/
def writesX (i : Instr) : Bool := [Mnemonic.LDX, .TAX, .TSX, .INX, .DEX].contains i.mnemonic

/-- Does the instruction write Y (10_state.md R21)? -/
def writesY (i : Instr) : Bool := [Mnemonic.LDY, .TAY, .INY, .DEY].contains i.mnemonic

/-- Does the instruction write S (10_state.md R23)? -/
def writesS (i : Instr) : Bool := [Mnemonic.TXS, .PHA, .PHP, .PLA, .PLP, .JSR, .RTS, .RTI, .BRK].contains i.mnemonic

/-- Which of N, V, B, D, I, Z, C an instruction writes (10_state.md R35). -/
def flagsWritten : Mnemonic → Status
  | .ADC | .SBC => ⟨true, true, false, false, false, true, true⟩
  | .AND | .ORA | .EOR | .INC | .DEC | .INX | .DEX | .INY | .DEY | .LDA | .LDX | .LDY | .TAX | .TXA | .TAY | .TYA
  | .TSX | .PLA => ⟨true, false, false, false, false, true, false⟩
  | .ASL | .LSR | .ROL | .ROR | .CMP | .CPX | .CPY => ⟨true, false, false, false, false, true, true⟩
  | .BIT => ⟨true, true, false, false, false, true, false⟩
  | .BRK => ⟨false, false, true, false, true, false, false⟩
  | .RTI | .PLP => ⟨true, true, true, true, true, true, true⟩
  | .CLC | .SEC => ⟨false, false, false, false, false, false, true⟩
  | .CLI | .SEI => ⟨false, false, false, false, true, false, false⟩
  | .CLD | .SED => ⟨false, false, false, true, false, false, false⟩
  | .CLV => ⟨false, true, false, false, false, false, false⟩
  | .BCC | .BCS | .BEQ | .BNE | .BVC | .BVS | .BPL | .BMI | .JMP | .JSR | .RTS | .STA | .STX | .STY | .TXS | .PHA
  | .PHP | .NOP => ⟨false, false, false, false, false, false, false⟩

/-- The mnemonics whose PC the table of 10_state.md R36 lists apart. -/
def setsPc : List Mnemonic := [.BCC, .BCS, .BEQ, .BNE, .BVC, .BVS, .BPL, .BMI, .JMP, .JSR, .RTS, .RTI, .BRK]

/-- The undocumented opcode bytes (30_encoding.md R97). -/
def undocumentedBytes : List Byte :=
    [0x02, 0x03, 0x04, 0x07, 0x0B, 0x0C, 0x0F,
    0x12, 0x13, 0x14, 0x17, 0x1A, 0x1B, 0x1C, 0x1F,
    0x22, 0x23, 0x27, 0x2B, 0x2F,
    0x32, 0x33, 0x34, 0x37, 0x3A, 0x3B, 0x3C, 0x3F,
    0x42, 0x43, 0x44, 0x47, 0x4B, 0x4F,
    0x52, 0x53, 0x54, 0x57, 0x5A, 0x5B, 0x5C, 0x5F,
    0x62, 0x63, 0x64, 0x67, 0x6B, 0x6F,
    0x72, 0x73, 0x74, 0x77, 0x7A, 0x7B, 0x7C, 0x7F,
    0x80, 0x82, 0x83, 0x87, 0x89, 0x8B, 0x8F,
    0x92, 0x93, 0x97, 0x9B, 0x9C, 0x9E, 0x9F,
    0xA3, 0xA7, 0xAB, 0xAF,
    0xB2, 0xB3, 0xB7, 0xBB, 0xBF,
    0xC2, 0xC3, 0xC7, 0xCB, 0xCF,
    0xD2, 0xD3, 0xD4, 0xD7, 0xDA, 0xDB, 0xDC, 0xDF,
    0xE2, 0xE3, 0xE7, 0xEB, 0xEF,
    0xF2, 0xF3, 0xF4, 0xF7, 0xFA, 0xFB, 0xFC, 0xFF]

/-- Mnemonic, mode and opcode of every form of ADC (30_encoding.md R96). -/
def codesAdc : List (Mnemonic × Mode × Byte) :=
    [(.ADC, .immediate, 0x69), (.ADC, .zeroPage, 0x65), (.ADC, .zeroPageX, 0x75), (.ADC, .absolute, 0x6D),
      (.ADC, .absoluteX, 0x7D), (.ADC, .absoluteY, 0x79), (.ADC, .indirectX, 0x61), (.ADC, .indirectY, 0x71)]

/-- Mnemonic, mode and opcode of every form of SBC (30_encoding.md R96). -/
def codesSbc : List (Mnemonic × Mode × Byte) :=
    [(.SBC, .immediate, 0xE9), (.SBC, .zeroPage, 0xE5), (.SBC, .zeroPageX, 0xF5), (.SBC, .absolute, 0xED),
      (.SBC, .absoluteX, 0xFD), (.SBC, .absoluteY, 0xF9), (.SBC, .indirectX, 0xE1), (.SBC, .indirectY, 0xF1)]

/-- Mnemonic, mode and opcode of every form of AND, ORA, EOR (30_encoding.md R96). -/
def codesLogical : List (Mnemonic × Mode × Byte) :=
    [(.AND, .immediate, 0x29), (.AND, .zeroPage, 0x25), (.AND, .zeroPageX, 0x35), (.AND, .absolute, 0x2D),
      (.AND, .absoluteX, 0x3D), (.AND, .absoluteY, 0x39), (.AND, .indirectX, 0x21), (.AND, .indirectY, 0x31),
      (.ORA, .immediate, 0x09), (.ORA, .zeroPage, 0x05), (.ORA, .zeroPageX, 0x15), (.ORA, .absolute, 0x0D),
      (.ORA, .absoluteX, 0x1D), (.ORA, .absoluteY, 0x19), (.ORA, .indirectX, 0x01), (.ORA, .indirectY, 0x11),
      (.EOR, .immediate, 0x49), (.EOR, .zeroPage, 0x45), (.EOR, .zeroPageX, 0x55), (.EOR, .absolute, 0x4D),
      (.EOR, .absoluteX, 0x5D), (.EOR, .absoluteY, 0x59), (.EOR, .indirectX, 0x41), (.EOR, .indirectY, 0x51)]

/-- Mnemonic, mode and opcode of every form of ASL, LSR, ROL, ROR (30_encoding.md R96). -/
def codesShift : List (Mnemonic × Mode × Byte) :=
    [(.ASL, .accumulator, 0x0A), (.ASL, .zeroPage, 0x06), (.ASL, .zeroPageX, 0x16), (.ASL, .absolute, 0x0E),
      (.ASL, .absoluteX, 0x1E), (.LSR, .accumulator, 0x4A), (.LSR, .zeroPage, 0x46), (.LSR, .zeroPageX, 0x56),
      (.LSR, .absolute, 0x4E), (.LSR, .absoluteX, 0x5E), (.ROL, .accumulator, 0x2A), (.ROL, .zeroPage, 0x26),
      (.ROL, .zeroPageX, 0x36), (.ROL, .absolute, 0x2E), (.ROL, .absoluteX, 0x3E), (.ROR, .accumulator, 0x6A),
      (.ROR, .zeroPage, 0x66), (.ROR, .zeroPageX, 0x76), (.ROR, .absolute, 0x6E), (.ROR, .absoluteX, 0x7E)]

/-- Mnemonic, mode and opcode of every form of CMP, CPX, CPY (30_encoding.md R96). -/
def codesCompare : List (Mnemonic × Mode × Byte) :=
    [(.CMP, .immediate, 0xC9), (.CMP, .zeroPage, 0xC5), (.CMP, .zeroPageX, 0xD5), (.CMP, .absolute, 0xCD),
      (.CMP, .absoluteX, 0xDD), (.CMP, .absoluteY, 0xD9), (.CMP, .indirectX, 0xC1), (.CMP, .indirectY, 0xD1),
      (.CPX, .immediate, 0xE0), (.CPX, .zeroPage, 0xE4), (.CPX, .absolute, 0xEC), (.CPY, .immediate, 0xC0),
      (.CPY, .zeroPage, 0xC4), (.CPY, .absolute, 0xCC)]

/-- Mnemonic, mode and opcode of every form of INC, DEC (30_encoding.md R96). -/
def codesIncDec : List (Mnemonic × Mode × Byte) :=
    [(.INC, .zeroPage, 0xE6), (.INC, .zeroPageX, 0xF6), (.INC, .absolute, 0xEE), (.INC, .absoluteX, 0xFE),
      (.DEC, .zeroPage, 0xC6), (.DEC, .zeroPageX, 0xD6), (.DEC, .absolute, 0xCE), (.DEC, .absoluteX, 0xDE)]

/-- Mnemonic, mode and opcode of every form of LDA, LDX, LDY (30_encoding.md R96). -/
def codesLoad : List (Mnemonic × Mode × Byte) :=
    [(.LDA, .immediate, 0xA9), (.LDA, .zeroPage, 0xA5), (.LDA, .zeroPageX, 0xB5), (.LDA, .absolute, 0xAD),
      (.LDA, .absoluteX, 0xBD), (.LDA, .absoluteY, 0xB9), (.LDA, .indirectX, 0xA1), (.LDA, .indirectY, 0xB1),
      (.LDX, .immediate, 0xA2), (.LDX, .zeroPage, 0xA6), (.LDX, .zeroPageY, 0xB6), (.LDX, .absolute, 0xAE),
      (.LDX, .absoluteY, 0xBE), (.LDY, .immediate, 0xA0), (.LDY, .zeroPage, 0xA4), (.LDY, .zeroPageX, 0xB4),
      (.LDY, .absolute, 0xAC), (.LDY, .absoluteX, 0xBC)]

/-- Mnemonic, mode and opcode of every form of STA, STX, STY (30_encoding.md R96). -/
def codesStore : List (Mnemonic × Mode × Byte) :=
    [(.STA, .zeroPage, 0x85), (.STA, .zeroPageX, 0x95), (.STA, .absolute, 0x8D), (.STA, .absoluteX, 0x9D),
      (.STA, .absoluteY, 0x99), (.STA, .indirectX, 0x81), (.STA, .indirectY, 0x91), (.STX, .zeroPage, 0x86),
      (.STX, .zeroPageY, 0x96), (.STX, .absolute, 0x8E), (.STY, .zeroPage, 0x84), (.STY, .zeroPageX, 0x94),
      (.STY, .absolute, 0x8C)]

/-- Mnemonic, mode and opcode of every form of BIT (30_encoding.md R96). -/
def codesBit : List (Mnemonic × Mode × Byte) :=
    [(.BIT, .zeroPage, 0x24), (.BIT, .absolute, 0x2C)]

/-- Mnemonic, mode and opcode of every form of CLC, SEC, CLI, SEI, CLD, SED, CLV (30_encoding.md R96). -/
def codesFlag : List (Mnemonic × Mode × Byte) :=
    [(.CLC, .implied, 0x18), (.SEC, .implied, 0x38), (.CLI, .implied, 0x58), (.SEI, .implied, 0x78),
      (.CLD, .implied, 0xD8), (.SED, .implied, 0xF8), (.CLV, .implied, 0xB8)]

/-- Mnemonic, mode and opcode of every form of BCC, BCS, BEQ, BNE, BVC, BVS, BPL, BMI (30_encoding.md R96). -/
def codesBranch : List (Mnemonic × Mode × Byte) :=
    [(.BCC, .relative, 0x90), (.BCS, .relative, 0xB0), (.BEQ, .relative, 0xF0), (.BNE, .relative, 0xD0),
      (.BVC, .relative, 0x50), (.BVS, .relative, 0x70), (.BPL, .relative, 0x10), (.BMI, .relative, 0x30)]

/-- The stored B set to a value: what 10_state.md R29 says no program can see. -/
def withB (b : Bool) (s : State) : State := { s with p := { s.p with b := b } }

/-- The stored D set to a value. -/
def withD (d : Bool) (s : State) : State := { s with p := { s.p with d := d } }

/-- Two outcomes agree but for the stored B of a next state. -/
def AgreeButB : Host.Outcome State Fault Refusal → Host.Outcome State Fault Refusal → Prop
  | .next t, .next u => withB false t = withB false u
  | .fault r, .fault q => r = q
  | .refused r, .refused q => r = q
  | _, _ => False

/-- The invariant: memory has its canonical form, and after a taken BRK the flags I and B are set (60_exceptions.md R266:
that is why an IRQ asserted during a BRK is ignored). -/
def GoodState (s : State) : Prop := Memory.wf s.mem = true ∧ (s.afterBrk = true → s.p.i = true ∧ s.p.b = true)

/-- The seven accesses of an interrupt that pushes, from the state at its boundary (60_exceptions.md R255). -/
def pushAccesses (s : State) (p : Status) (va : Addr) : List BusCycle :=
  [dr s 0 s.pc, dr s 1 s.pc, ⟨.write, stk s.sp, high s.pc⟩, ⟨.write, stk (s.sp - 1), low s.pc⟩,
    ⟨.write, stk (s.sp - 2), pByte p⟩, rd s 5 va, rd s 6 (va + 1)]

/-- The handler's address as the vector fetch of clocks 5 and 6 gives it (60_exceptions.md R250, R255). -/
def handler (s : State) (va : Addr) : Addr :=
  word (busValue s (s.clock + 6) (va + 1)) (busValue s (s.clock + 5) va)

end Sys2Proof.Spec

open Sys2Proof Sys2Proof.Machine Sys2Proof.Spec

/-! ### Encoding -/

/-- Decoding an encoded well-formed instruction gives it back with the bytes after it (30_encoding.md R90 to R93, R96). -/
def Obligations.DecodeOfEncode : Prop :=
  ∀ (i : Instr) (rest : List Byte), i.wf = true → decode (encode i ++ rest) = .ok (i, rest)

/-- Bytes that decode are exactly the encoding of what they decode to. -/
def Obligations.DecodedBytesAreTheEncoding : Prop :=
  ∀ (bytes rest : List Byte) (i : Instr), decode bytes = .ok (i, rest) → bytes = encode i ++ rest ∧ i.wf = true

/-- One word of every family, as 30_encoding.md R96 and R100 write it, decodes to its instruction. -/
def Obligations.ExampleBytesDecode : Prop :=
  decode [0x69, 0x44] = .ok (.adcImm 0x44, []) ∧ decode [0x3D, 0x00, 0x44] = .ok (.andAbsX 0x00 0x44, []) ∧
  decode [0x0A] = .ok (.aslA, []) ∧ decode [0x90, 0xFC] = .ok (.bcc 0xFC, []) ∧
  decode [0x6C, 0x97, 0x55] = .ok (.jmpInd 0x97 0x55, []) ∧ decode [0xC1, 0x44] = .ok (.cmpIndX 0x44, []) ∧
  decode [0xE6, 0x44] = .ok (.incZp 0x44, []) ∧ decode [0xB6, 0x44] = .ok (.ldxZpY 0x44, []) ∧
  decode [0x91, 0x20] = .ok (.staIndY 0x20, []) ∧ decode [0xBA] = .ok (.tsx, [])

/-- The opcode table has 151 rows of pairwise distinct opcodes, each of a mode its mnemonic has and of its mode's length;
the bytes without a row are the 105 undocumented ones (30_encoding.md R91, R94, R96, R97). -/
def Obligations.OpcodeTableShape : Prop :=
  opcodeTable.length = 151 ∧ (opcodeTable.map OpcodeRow.opcode).Nodup ∧
    (∀ r ∈ opcodeTable, r.len = r.mode.length ∧ r.mode ∈ r.mnemonic.modes) ∧
    undocumentedBytes.length = 105 ∧ ∀ op : Byte, opcodeRow? op = none ↔ op ∈ undocumentedBytes

/-! ### One step -/

/-- When the bytes at PC decode to an instruction and no interrupt is taken, the step is exec of it, in the state of the
boundary with the mark of a BRK cleared; with all input lines at rest that is the state itself with no access recorded
(00_scope.md R6). -/
def Obligations.StepRunsDecodedInstruction : Prop :=
  ∀ (s : State) (i : Instr) (rest : List Byte),
    decode (fetchBytes (atBoundary s)) = .ok (i, rest) → i.wf = true →
    (boundary (atBoundary s) = .run → step s = exec i (startInstr (atBoundary s))) ∧
    (s.env = [] → s.resetReq = false → s.nmiPending = false → s.irqLine = false →
      step s = exec i { s with cycles := [], afterBrk := false })

/-- When no interrupt is taken and the opcode byte at PC is undocumented, the step is refused by its byte
(the spec's decision D10, 30_encoding.md R98, log 15). -/
def Obligations.UndocumentedOpcodeRefused : Prop :=
  ∀ s : State, boundary (atBoundary s) = .run →
    busValue (atBoundary s) (atBoundary s).clock (atBoundary s).pc ∈ undocumentedBytes →
    step s = .refused (.undocumented (busValue (atBoundary s) (atBoundary s).clock (atBoundary s).pc))

/-- A step faults exactly when an NMI is pending, with no RESET requested, at the boundary after a taken BRK (the spec's
decision D9, 60_exceptions.md R266, log 13). -/
def Obligations.FaultExactlyWhenBrkIsInterrupted : Prop :=
  ∀ (s : State) (r : Fault), step s = .fault r ↔
    r = .brkInterrupted ∧ (atBoundary s).resetReq = false ∧ (atBoundary s).nmiPending = true ∧
      (atBoundary s).afterBrk = true

/-- The mark of a BRK is set by a taken BRK and by nothing else (the model's field for D9, log 13). -/
def Obligations.BrkMarkSetByTakenBrk : Prop :=
  ∀ s t : State, step s = .next t →
    (t.afterBrk = true ↔
      boundary (atBoundary s) = .run ∧ fetchInstr (atBoundary s) = .ok .brk ∧ (atBoundary s).p.i = false)

/-- What happens at a boundary, in order of priority: the spec's own decision D5 (60_exceptions.md R260, log 14). -/
def Obligations.BoundaryPriority : Prop :=
  ∀ s : State,
    (s.resetReq = true → boundary s = .take .reset) ∧
    (s.resetReq = false → s.nmiPending = true → s.afterBrk = true → boundary s = .brkLost) ∧
    (s.resetReq = false → s.nmiPending = true → s.afterBrk = false → boundary s = .take .nmi) ∧
    (s.resetReq = false → s.nmiPending = false → s.irqLine = true → s.p.i = false → boundary s = .take .irq) ∧
    (s.resetReq = false → s.nmiPending = false → s.irqLine = true → s.p.i = true → boundary s = .run) ∧
    (s.resetReq = false → s.nmiPending = false → s.irqLine = false → boundary s = .run)

/-- At the boundary after a taken BRK no IRQ is taken, whatever the line: BRK has set I (60_exceptions.md R266,
the spec's decision D9, log 13). -/
def Obligations.IrqWaitsAfterBrk : Prop :=
  ∀ s t : State, step s = .next t → t.afterBrk = true → boundary (atBoundary t) ≠ .take .irq

/-- `State.withFetchWord` puts an instruction where the next step fetches and runs it, wherever PC is, and changes no
register (the model's loader, log 21). -/
def Obligations.FetchWordRunsItsInstruction : Prop :=
  ∀ (s : State) (nbits w : Nat) (i : Instr), decodeTableWord nbits w = some i →
    let u := s.withFetchWord nbits w
    step u = exec i { u with cycles := [], afterBrk := false } ∧ u.a = s.a ∧ u.x = s.x ∧ u.y = s.y ∧ u.sp = s.sp ∧
      u.p = s.p ∧ u.pc = s.pc ∧ u.clock = s.clock

/-- How the environment's next change reaches the lines at a boundary; the model's reading of 60_exceptions.md R251 to R254,
log 12. -/
def Obligations.InputsSampledAtBoundary : Prop :=
  ∀ s : State,
    (s.env = [] → atBoundary s = { s with cycles := [] }) ∧
    ∀ (e : LineChange) (rest : List LineChange), s.env = e :: rest →
      atBoundary s = { s with
        env := rest, cycles := [], resetReq := s.resetReq || e.reset, nmiPending := s.nmiPending || e.nmi, irqLine := e.irq }

/-! ### Interrupt sequences -/

/-- RESET (60_exceptions.md R256): nothing is written, I is set, D is kept, PC comes from $FFFC and $FFFD, the request is
consumed, five dummy reads and the vector fetch are made. -/
def Obligations.ResetSequence : Prop :=
  ∀ s : State, (atBoundary s).resetReq = true →
    let b := atBoundary s
    ∃ t, step s = .next t ∧ t.p.i = true ∧ t.p.d = b.p.d ∧ t.pc = handler b 0xFFFC ∧
      (∀ n, Memory.read t.mem n = Memory.read b.mem n) ∧ t.resetReq = false ∧ t.irqLine = b.irqLine ∧
      t.board = b.board ∧ t.env = b.env ∧ t.afterBrk = false ∧
      Made b t [dr b 0 b.pc, dr b 1 b.pc, dr b 2 (stk b.sp), dr b 3 (stk (b.sp - 1)), dr b 4 (stk (b.sp - 2)),
        rd b 5 0xFFFC, rd b 6 0xFFFD]

/-- NMI (60_exceptions.md R257): whatever I is, PC and P with B cleared are pushed, I is set, PC comes from $FFFA and
$FFFB, the latch is cleared. What the pushes do outside plain memory is the model's choice (logs 5 to 7). -/
def Obligations.NmiSequence : Prop :=
  ∀ s : State, (atBoundary s).resetReq = false → (atBoundary s).nmiPending = true → (atBoundary s).afterBrk = false →
    let b := atBoundary s
    ∃ t, step s = .next t ∧
      Regs b t b.a b.x b.y (b.sp - 3) { b.p with b := false, i := true } (handler b 0xFFFA)
        [(stk (b.sp - 2), pByte { b.p with b := false }), (stk (b.sp - 1), low b.pc), (stk b.sp, high b.pc)] ∧
      t.nmiPending = false ∧ t.resetReq = false ∧ t.irqLine = b.irqLine ∧ t.board = b.board ∧ t.env = b.env ∧
      t.afterBrk = false ∧ Made b t (pushAccesses b { b.p with b := false } 0xFFFA)

/-- IRQ (60_exceptions.md R258): taken while I = 0, like NMI but for the vector and the latch; while I = 1 nothing happens
and the instruction at PC runs (the spec's decisions D6 and D21, log 12). What the pushes do outside plain memory
is the model's choice (logs 5 to 7). -/
def Obligations.IrqSequence : Prop :=
  ∀ s : State, (atBoundary s).resetReq = false → (atBoundary s).nmiPending = false → (atBoundary s).irqLine = true →
    let b := atBoundary s
    (b.p.i = false → ∃ t, step s = .next t ∧
      Regs b t b.a b.x b.y (b.sp - 3) { b.p with b := false, i := true } (handler b 0xFFFE)
        [(stk (b.sp - 2), pByte { b.p with b := false }), (stk (b.sp - 1), low b.pc), (stk b.sp, high b.pc)] ∧
      t.nmiPending = false ∧ t.resetReq = false ∧ t.irqLine = true ∧ t.board = b.board ∧ t.env = b.env ∧
      t.afterBrk = false ∧ Made b t (pushAccesses b { b.p with b := false } 0xFFFE)) ∧
    (b.p.i = true → ∀ i, fetchInstr b = .ok i → step s = exec i (startInstr b))

/-- RTI undoes an interrupt entry whose three stack bytes lie in plain memory: PC, S and every flag but B return, and A, X
and Y are as they were (60_exceptions.md R262, derived there). -/
def Obligations.RtiInvertsInterruptEntry : Prop :=
  ∀ (k : InterruptKind) (s : State), k ≠ .reset →
    targetAt s.board (stk s.sp) = .memory → targetAt s.board (stk (s.sp - 1)) = .memory →
    targetAt s.board (stk (s.sp - 2)) = .memory →
    ∃ t, exec .rti (interruptEntry k s) = .next t ∧ t.pc = (if k = .brk then s.pc + 1 else s.pc) ∧ t.sp = s.sp ∧
      t.p = { s.p with b := decide (k = .brk) } ∧ t.a = s.a ∧ t.x = s.x ∧ t.y = s.y

/-! ### Addressing and bus accesses -/

/-- Every mode forms the effective address of its rule, by the accesses of its cycle table, and does nothing else but move
PC past the operand bytes (40_addressing_modes.md R113 to R116, R119, R120, R123). -/
def Obligations.EffectiveAddressesOfModes : Prop :=
  ∀ (m : MemOperand) (s : State),
    (resolve m (fetchCycle s)).1 = ea s m ∧ Made s (resolve m (fetchCycle s)).2 (access s m) ∧
      Rest s (resolve m (fetchCycle s)).2 ∧
      Regs s (resolve m (fetchCycle s)).2 s.a s.x s.y s.sp s.p (s.pc + 1 + operandLength m) []

/-- Every instruction but an ignored BRK takes the clocks of its CLK column, one more on a page cross where the table says
+1, and one or two more for a taken branch (70_reset_and_hazards.md R300, 30_encoding.md R96). -/
def Obligations.ClockCountsMatchTable : Prop :=
  ∀ (i : Instr) (s : State), (i = .brk → s.p.i = false) →
    ∃ t, exec i s = .next t ∧ t.clock = s.clock + i.clocks + extraClocks i s ∧
      t.cycles.length = s.cycles.length + i.clocks + extraClocks i s

/-! ### Arithmetic, logic, shifts, compares -/

/-- ADC (41_arithmetic.md R130). The V flag is given by the signed sum's range, and the bit formula is the same: the spec's
reading of $7F-$80, marked general knowledge (93 G1, log 23). -/
def Obligations.AdcAddsMemoryAndCarry : Prop :=
  ∀ (i : Instr) (o : ReadOperand) (s : State), i.mnemonic = .ADC → i.readOperand? = some o →
    let m := datum s o
    let sum := s.a.toNat + m.toNat + s.p.c.toNat
    let r : Byte := BitVec.ofNat 8 sum
    let signed : Int := s.a.toInt + m.toInt + s.p.c.toNat
    (i.mnemonic, i.mode, i.opcode) ∈ codesAdc ∧
    Yields i s r s.x s.y s.sp
      (nz { s.p with c := decide (255 < sum), v := decide (signed < -128 ∨ 127 < signed) } r) (next s i) [] (readAccesses s o) ∧
    ((signed < -128 ∨ 127 < signed) ↔ s.a.msb = m.msb ∧ r.msb ≠ s.a.msb)

/-- SBC (41_arithmetic.md R131), with V as in ADC (93 G1, log 23). -/
def Obligations.SbcSubtractsMemoryAndBorrow : Prop :=
  ∀ (i : Instr) (o : ReadOperand) (s : State), i.mnemonic = .SBC → i.readOperand? = some o →
    let m := datum s o
    let diff : Int := s.a.toNat - m.toNat - (1 - s.p.c.toNat)
    let r : Byte := BitVec.ofInt 8 diff
    let signed : Int := s.a.toInt - m.toInt - (1 - s.p.c.toNat)
    (i.mnemonic, i.mode, i.opcode) ∈ codesSbc ∧
    Yields i s r s.x s.y s.sp
      (nz { s.p with c := decide (0 ≤ diff), v := decide (signed < -128 ∨ 127 < signed) } r) (next s i) [] (readAccesses s o) ∧
    ((signed < -128 ∨ 127 < signed) ↔ s.a.msb ≠ m.msb ∧ r.msb ≠ s.a.msb)

/-- SBC with a datum is ADC with its complement (41_arithmetic.md R133), as instructions and as computations; derived
there. -/
def Obligations.SbcIsAdcOfComplement : Prop :=
  (∀ (m : Byte) (s : State), exec (.sbcImm m) s = exec (.adcImm (m ^^^ 0xFF)) s) ∧
    ∀ (a m : Byte) (p : Status), sbc a m p = adc a (m ^^^ 0xFF) p

/-- AND, ORA, EOR (42_logical.md R140 to R142). -/
def Obligations.LogicalInstructions : Prop :=
  ∀ (i : Instr) (o : ReadOperand) (s : State) (r : Byte), i.readOperand? = some o →
    logical i.mnemonic s.a (datum s o) = some r →
    (i.mnemonic, i.mode, i.opcode) ∈ codesLogical ∧ Yields i s r s.x s.y s.sp (nz s.p r) (next s i) []
      (readAccesses s o)

/-- ASL, LSR, ROL, ROR on A and on memory (43_shift_rotate.md R150 to R154). What the write does outside plain memory is
the model's choice (logs 5 to 7); the byte of the dummy write is free and leaves no trace in plain memory (D12, log 8). -/
def Obligations.ShiftsAndRotates : Prop :=
  ∀ (i : Instr) (s : State) (r : Nat) (c : Bool),
    (i.mode = .accumulator → shifted i.mnemonic s.a.toNat s.p.c = some (r, c) →
      (i.mnemonic, i.mode, i.opcode) ∈ codesShift ∧
      Yields i s (BitVec.ofNat 8 r) s.x s.y s.sp (nz { s.p with c := c } (BitVec.ofNat 8 r)) (next s i) []
        (twoAccesses s)) ∧
    ∀ m, i.memOperand? = some m → shifted i.mnemonic (datum s (.memory m)).toNat s.p.c = some (r, c) →
      (i.mnemonic, i.mode, i.opcode) ∈ codesShift ∧
      ∃ g, Yields i s s.a s.x s.y s.sp (nz { s.p with c := c } (BitVec.ofNat 8 r)) (next s i)
        [(ea s m, BitVec.ofNat 8 r)] (modifyAccesses s m g (BitVec.ofNat 8 r))

/-- CMP, CPX, CPY (46_compare.md R190 to R193). -/
def Obligations.CompareInstructions : Prop :=
  ∀ (i : Instr) (o : ReadOperand) (s : State) (reg : Byte), i.readOperand? = some o →
    compared i.mnemonic s = some reg →
    let m := datum s o
    (i.mnemonic, i.mode, i.opcode) ∈ codesCompare ∧
    Yields i s s.a s.x s.y s.sp
      (nz { s.p with c := decide (m.toNat ≤ reg.toNat) } (BitVec.ofInt 8 (reg.toNat - m.toNat))) (next s i) []
      (readAccesses s o)

/-- BIT (44_branch_bittest.md R169). -/
def Obligations.BitTestsMemory : Prop :=
  ∀ (i : Instr) (o : ReadOperand) (s : State), i.mnemonic = .BIT → i.readOperand? = some o →
    let m := datum s o
    (i.mnemonic, i.mode, i.opcode) ∈ codesBit ∧
    Yields i s s.a s.x s.y s.sp
      { s.p with z := decide (s.a.toNat &&& m.toNat = 0), n := m.toNat.testBit 7, v := m.toNat.testBit 6 }
      (next s i) [] (readAccesses s o)

/-- INC and DEC on memory (47_incdec_flagops.md R200, R201). What the write does outside plain memory is the model's choice
(logs 5 to 7); the byte of the dummy write is free and leaves no trace in plain memory (D12, log 8). -/
def Obligations.IncrementsOfMemory : Prop :=
  ∀ (i : Instr) (m : MemOperand) (s : State) (r : Nat), i.memOperand? = some m →
    counted i.mnemonic (datum s (.memory m)).toNat = some r →
    (i.mnemonic, i.mode, i.opcode) ∈ codesIncDec ∧
    ∃ g, Yields i s s.a s.x s.y s.sp (nz s.p (BitVec.ofNat 8 r)) (next s i) [(ea s m, BitVec.ofNat 8 r)]
      (modifyAccesses s m g (BitVec.ofNat 8 r))

/-- INX, DEX, INY, DEY (47_incdec_flagops.md R202 to R205). -/
def Obligations.IncrementsOfIndex : Prop :=
  ∀ s : State,
    let inx : Byte := BitVec.ofNat 8 ((s.x.toNat + 1) % 256)
    let dex : Byte := BitVec.ofNat 8 ((s.x.toNat + 255) % 256)
    let iny : Byte := BitVec.ofNat 8 ((s.y.toNat + 1) % 256)
    let dey : Byte := BitVec.ofNat 8 ((s.y.toNat + 255) % 256)
    Yields .inx s s.a inx s.y s.sp (nz s.p inx) (s.pc + 1) [] (twoAccesses s) ∧
    Yields .dex s s.a dex s.y s.sp (nz s.p dex) (s.pc + 1) [] (twoAccesses s) ∧
    Yields .iny s s.a s.x iny s.sp (nz s.p iny) (s.pc + 1) [] (twoAccesses s) ∧
    Yields .dey s s.a s.x dey s.sp (nz s.p dey) (s.pc + 1) [] (twoAccesses s) ∧
    encode .inx = [0xE8] ∧ encode .dex = [0xCA] ∧ encode .iny = [0xC8] ∧ encode .dey = [0x88]

/-- CLC, SEC, CLI, SEI, CLD, SED, CLV (47_incdec_flagops.md R210 to R216). -/
def Obligations.FlagInstructions : Prop :=
  ∀ (i : Instr) (s : State) (p : Status), flagged i.mnemonic s.p = some p →
    (i.mnemonic, i.mode, i.opcode) ∈ codesFlag ∧ Yields i s s.a s.x s.y s.sp p (s.pc + 1) [] (twoAccesses s)

/-! ### Loads, stores, transfers, stack -/

/-- LDA, LDX, LDY (48_load_store.md R220 to R222). -/
def Obligations.LoadInstructions : Prop :=
  ∀ (i : Instr) (o : ReadOperand) (s : State), i.readOperand? = some o →
    let m := datum s o
    (i.mnemonic = .LDA → (i.mnemonic, i.mode, i.opcode) ∈ codesLoad ∧
      Yields i s m s.x s.y s.sp (nz s.p m) (next s i) [] (readAccesses s o)) ∧
    (i.mnemonic = .LDX → (i.mnemonic, i.mode, i.opcode) ∈ codesLoad ∧
      Yields i s s.a m s.y s.sp (nz s.p m) (next s i) [] (readAccesses s o)) ∧
    (i.mnemonic = .LDY → (i.mnemonic, i.mode, i.opcode) ∈ codesLoad ∧
      Yields i s s.a s.x m s.sp (nz s.p m) (next s i) [] (readAccesses s o))

/-- STA, STX, STY (48_load_store.md R223 to R225). That a store outside plain memory changes no byte of memory is the model's
choice (logs 5 to 7). -/
def Obligations.StoreInstructions : Prop :=
  ∀ (i : Instr) (m : MemOperand) (s : State) (v : Byte), i.memOperand? = some m →
    storedReg i.mnemonic s = some v →
    (i.mnemonic, i.mode, i.opcode) ∈ codesStore ∧
    Yields i s s.a s.x s.y s.sp s.p (next s i) [(ea s m, v)] (storeAccesses s m v)

/-- TAX, TXA, TAY, TYA, TSX, TXS (49_transfer_stack_nop.md R230 to R235). -/
def Obligations.TransferInstructions : Prop :=
  ∀ s : State,
    Yields .tax s s.a s.a s.y s.sp (nz s.p s.a) (s.pc + 1) [] (twoAccesses s) ∧
    Yields .txa s s.x s.x s.y s.sp (nz s.p s.x) (s.pc + 1) [] (twoAccesses s) ∧
    Yields .tay s s.a s.x s.a s.sp (nz s.p s.a) (s.pc + 1) [] (twoAccesses s) ∧
    Yields .tya s s.y s.x s.y s.sp (nz s.p s.y) (s.pc + 1) [] (twoAccesses s) ∧
    Yields .tsx s s.a s.sp s.y s.sp (nz s.p s.sp) (s.pc + 1) [] (twoAccesses s) ∧
    Yields .txs s s.a s.x s.y s.x s.p (s.pc + 1) [] (twoAccesses s) ∧
    encode .tax = [0xAA] ∧ encode .txa = [0x8A] ∧ encode .tay = [0xA8] ∧ encode .tya = [0x98] ∧ encode .tsx = [0xBA] ∧
    encode .txs = [0x9A]

/-- PHA and PHP (49_transfer_stack_nop.md R236, R238). What the push does outside plain memory is the model's choice (logs 5
to 7). -/
def Obligations.PushInstructions : Prop :=
  ∀ s : State,
    Yields .pha s s.a s.x s.y (s.sp - 1) s.p (s.pc + 1) [(stk s.sp, s.a)]
      [rd s 0 s.pc, dr s 1 (s.pc + 1), ⟨.write, stk s.sp, s.a⟩] ∧
    Yields .php s s.a s.x s.y (s.sp - 1) s.p (s.pc + 1) [(stk s.sp, pByte { s.p with b := true })]
      [rd s 0 s.pc, dr s 1 (s.pc + 1), ⟨.write, stk s.sp, pByte { s.p with b := true }⟩] ∧
    encode .pha = [0x48] ∧ encode .php = [0x08]

/-- PLA (49_transfer_stack_nop.md R237). -/
def Obligations.PlaPullsAccumulator : Prop :=
  ∀ s : State,
    let v := busValue s (s.clock + 3) (stk (s.sp + 1))
    Yields .pla s v s.x s.y (s.sp + 1) (nz s.p v) (s.pc + 1) [] (pullAccesses s) ∧ encode .pla = [0x68]

/-- PLP (49_transfer_stack_nop.md R239); bit 5 of the pulled byte is not loaded by the spec's decision D14, log 1. -/
def Obligations.PlpPullsStatus : Prop :=
  ∀ s : State,
    let v := busValue s (s.clock + 3) (stk (s.sp + 1))
    Yields .plp s s.a s.x s.y (s.sp + 1) (flagsOf v) (s.pc + 1) [] (pullAccesses s) ∧ encode .plp = [0x28]

/-- NOP changes PC alone (49_transfer_stack_nop.md R240). -/
def Obligations.NopDoesNothing : Prop :=
  ∀ s : State, Yields .nop s s.a s.x s.y s.sp s.p (s.pc + 1) [] (twoAccesses s) ∧
    encode .nop = [0xEA]

/-! ### Control flow -/

/-- The eight branches, taken and not taken, with their accesses (44_branch_bittest.md R160 to R168); the target is taken
modulo 65536 by the spec's decision D1, log 17. -/
def Obligations.BranchInstructions : Prop :=
  ∀ (i : Instr) (off : Byte) (s : State) (cond : Bool), branchCond i.mnemonic s.p = some cond → i.operands = [off] →
    (i.mnemonic, i.mode, i.opcode) ∈ codesBranch ∧
    Yields i s s.a s.x s.y s.sp s.p (if cond then branchTarget s off else s.pc + 2) []
      ([rd s 0 s.pc, rd s 1 (s.pc + 1)] ++
        if cond then [dr s 2 (s.pc + 2)] ++
          if high (branchTarget s off) = high (s.pc + 2) then [] else [dr s 3 (s.pc + 2)]
        else [])

/-- JMP absolute and indirect; the pointer's second byte comes from the page of its first (45_jump_interrupt.md R175,
R176). That JMP indirect makes five accesses, without the dummy row of its cycle table, is the model's choice (conflict C2, D20,
log 18). -/
def Obligations.JumpInstructions : Prop :=
  ∀ (lo hi : Byte) (s : State),
    let second : Addr := BitVec.ofNat 16 (256 * hi.toNat + (lo.toNat + 1) % 256)
    Yields (.jmpAbs lo hi) s s.a s.x s.y s.sp s.p (word hi lo) []
      [rd s 0 s.pc, rd s 1 (s.pc + 1), rd s 2 (s.pc + 2)] ∧
    Yields (.jmpInd lo hi) s s.a s.x s.y s.sp s.p
      (word (busValue s (s.clock + 4) second) (busValue s (s.clock + 3) (word hi lo))) []
      [rd s 0 s.pc, rd s 1 (s.pc + 1), rd s 2 (s.pc + 2), rd s 3 (word hi lo), rd s 4 second] ∧
    encode (.jmpAbs lo hi) = [0x4C, lo, hi] ∧ encode (.jmpInd lo hi) = [0x6C, lo, hi]

/-- JSR (45_jump_interrupt.md R177): the address of its last byte is pushed, high byte first, and only then is that last
byte read for the target's high byte (conflict C12, log 16). What the pushes do outside plain memory, and so what is read back
there, is the model's choice (logs 5 to 7). -/
def Obligations.JsrPushesAndJumps : Prop :=
  ∀ (lo hi : Byte) (s : State),
    let ret := s.pc + 2
    let stores := [(stk (s.sp - 1), low ret), (stk s.sp, high ret)]
    let third := if targetAt s.board ret = .device then busValue s (s.clock + 5) ret else stored s stores ret.toNat
    Yields (.jsr lo hi) s s.a s.x s.y (s.sp - 2) s.p (word third lo) stores
      [rd s 0 s.pc, rd s 1 (s.pc + 1), dr s 2 (stk s.sp), ⟨.write, stk s.sp, high ret⟩,
        ⟨.write, stk (s.sp - 1), low ret⟩, ⟨.read, ret, third⟩] ∧
    encode (.jsr lo hi) = [0x20, lo, hi]

/-- RTS (45_jump_interrupt.md R178); the increment is modulo 65536 by the spec's decision D1, log 17. -/
def Obligations.RtsPullsAndIncrements : Prop :=
  ∀ s : State,
    let target := word (busValue s (s.clock + 4) (stk (s.sp + 2))) (busValue s (s.clock + 3) (stk (s.sp + 1)))
    Yields .rts s s.a s.x s.y (s.sp + 2) s.p (target + 1) []
      [rd s 0 s.pc, dr s 1 (s.pc + 1), dr s 2 (stk s.sp), rd s 3 (stk (s.sp + 1)), rd s 4 (stk (s.sp + 2)),
        dr s 5 target] ∧
    encode .rts = [0x60]

/-- An RTS with the S and the two stack bytes that a JSR left, in plain memory, resumes after the JSR
(45_jump_interrupt.md R179, derived there). -/
def Obligations.RtsResumesAfterJsr : Prop :=
  ∀ (lo hi : Byte) (s t u : State), exec (.jsr lo hi) s = .next t →
    targetAt s.board (stk s.sp) = .memory → targetAt s.board (stk (s.sp - 1)) = .memory →
    u.sp = t.sp → u.board = t.board → Memory.read u.mem (stk s.sp).toNat = Memory.read t.mem (stk s.sp).toNat →
    Memory.read u.mem (stk (s.sp - 1)).toNat = Memory.read t.mem (stk (s.sp - 1)).toNat →
    ∃ v, exec .rts u = .next v ∧ v.pc = s.pc + 3 ∧ v.sp = s.sp

/-- BRK with I = 0 (45_jump_interrupt.md R181, 60_exceptions.md R259): the interrupt sequence with B set and return
address opaddr + 2. The mark of a BRK is the model's field for D9 (log 13); what the pushes do outside plain memory is the
model's choice (logs 5 to 7). -/
def Obligations.BrkTakenWhenNotMasked : Prop :=
  ∀ s : State, s.p.i = false →
    let ret := s.pc + 2
    let pushed := pByte { s.p with b := true }
    ∃ t, exec .brk s = .next t ∧
      Regs s t s.a s.x s.y (s.sp - 3) { s.p with b := true, i := true } (handler s 0xFFFE)
        [(stk (s.sp - 2), pushed), (stk (s.sp - 1), low ret), (stk s.sp, high ret)] ∧
      t.board = s.board ∧ t.resetReq = s.resetReq ∧ t.nmiPending = s.nmiPending ∧ t.irqLine = s.irqLine ∧
      t.env = s.env ∧ t.afterBrk = true ∧
      Made s t [rd s 0 s.pc, dr s 1 (s.pc + 1), ⟨.write, stk s.sp, high ret⟩, ⟨.write, stk (s.sp - 1), low ret⟩,
        ⟨.write, stk (s.sp - 2), pushed⟩, rd s 5 0xFFFE, rd s 6 0xFFFF]

/-- BRK with I = 1 is a one-byte instruction without effect; of its accesses only the opcode fetch is known
(45_jump_interrupt.md R181; the spec's decision D8, logs 10 and 11). -/
def Obligations.BrkIgnoredWhenMasked : Prop :=
  ∀ s : State, s.p.i = true →
    ∃ t open_, exec .brk s = .next t ∧ Regs s t s.a s.x s.y s.sp s.p (s.pc + 1) [] ∧ Rest s t ∧
      Made s t (rd s 0 s.pc :: open_) ∧ ∀ c ∈ open_, c.kind = .dummyRead

/-- RTI (45_jump_interrupt.md R182); bit 5 of the pulled byte is not loaded by the spec's decision D14, log 1. -/
def Obligations.RtiRestoresStatusAndPc : Prop :=
  ∀ s : State,
    let v := busValue s (s.clock + 3) (stk (s.sp + 1))
    Yields .rti s s.a s.x s.y (s.sp + 3) (flagsOf v)
      (word (busValue s (s.clock + 5) (stk (s.sp + 3))) (busValue s (s.clock + 4) (stk (s.sp + 2)))) []
      [rd s 0 s.pc, dr s 1 (s.pc + 1), dr s 2 (stk s.sp), rd s 3 (stk (s.sp + 1)), rd s 4 (stk (s.sp + 2)),
        rd s 5 (stk (s.sp + 3))] ∧
    (pByte (flagsOf v)).toNat = v.toNat ||| 32 ∧ encode .rti = [0x40]

/-! ### Bus, stack and reset -/

/-- A write to plain memory is read back by every later read, other addresses keep what they hold, and a write where no
plain memory answers changes no byte (20_memory.md R64, R65; what answers is the model's map, logs 5 to 7). -/
def Obligations.BusReadAfterWrite : Prop :=
  ∀ (a : Addr) (v : Byte) (s : State),
    (targetAt s.board a = .memory → ∀ n, busValue (memWrite a v s) n a = v) ∧
    (∀ n b, b ≠ a → busValue (memWrite a v s) n b = busValue s n b) ∧
    (targetAt s.board a ≠ .memory → ∀ n, Memory.read (memWrite a v s).mem n = Memory.read s.mem n)

/-- Push stores at $0100 + S and decrements S, pull increments S and reads there, and a pull after a push into plain memory
gives the byte and S back (20_memory.md R68, R69). What a push does outside plain memory is the model's choice (logs 5 to 7). -/
def Obligations.PushAndPull : Prop :=
  ∀ (v : Byte) (s : State),
    (push v s).sp = s.sp - 1 ∧ (∀ n, Memory.read (push v s).mem n = stored s [(stk s.sp, v)] n) ∧
    (pull s).2.sp = s.sp + 1 ∧ (pull s).1 = busValue s s.clock (stk (s.sp + 1)) ∧
    (∀ n, Memory.read (pull s).2.mem n = Memory.read s.mem n) ∧
    (targetAt s.board (stk s.sp) = .memory → (pull (push v s)).1 = v ∧ (pull (push v s)).2.sp = s.sp)

/-- After reset: PC is the RESET vector's content, I is 1, bit 5 of P is 1, the request is consumed (10_state.md R40). -/
def Obligations.ResetStateAsSpecified : Prop :=
  State.reset.pc = word (busValue State.reset 0 0xFFFD) (busValue State.reset 0 0xFFFC) ∧ State.reset.p.i = true ∧
    State.reset.p.toByte.toNat.testBit 5 = true ∧ State.reset.resetReq = false

/-- The model's own choices for what 10_state.md R40 leaves unspecified (logs 2, 4, 5). -/
def Obligations.ResetValuesTheModelChose : Prop :=
  State.reset.a = 0 ∧ State.reset.x = 0 ∧ State.reset.y = 0 ∧ State.reset.sp = 0 ∧ pByte State.reset.p = 0x24 ∧
    State.reset.nmiPending = false ∧ State.reset.irqLine = false ∧
    ∀ a : Addr, targetAt State.reset.board a = .memory ∧ Memory.read State.reset.mem a.toNat = 0

/-- The first step after power-on is a RESET sequence (60_exceptions.md R251, the spec's decision D6); that PC becomes $0000
rests on the model's empty memory (log 4), the addresses before it on logs 2 and 3. -/
def Obligations.PowerOnStartsWithReset : Prop :=
  ∃ t, step State.powerOn = .next t ∧ t.resetReq = false ∧ t.p.i = true ∧ t.pc = 0x0000 ∧
    t.cycles.map BusCycle.addr = [0x0000, 0x0000, 0x0100, 0x01FF, 0x01FE, 0xFFFC, 0xFFFD] ∧
    ∀ c ∈ t.cycles, c.kind = .read ∨ c.kind = .dummyRead

/-! ### Rules of the whole machine -/

/-- Every instruction completes in every state: the hardware raises no synchronous fault (60_exceptions.md R263). -/
def Obligations.EveryInstructionCompletes : Prop := ∀ (i : Instr) (s : State), ∃ t, exec i s = .next t

/-- No instruction writes A, X, Y or S but those that 10_state.md R21 and R23 list. -/
def Obligations.RegistersWrittenOnlyAsListed : Prop :=
  ∀ (i : Instr) (s t : State), exec i s = .next t →
    (writesA i = false → t.a = s.a) ∧ (writesX i = false → t.x = s.x) ∧ (writesY i = false → t.y = s.y) ∧
      (writesS i = false → t.sp = s.sp)

/-- No instruction writes a flag that 10_state.md R35 does not list for it. -/
def Obligations.FlagsWrittenOnlyAsListed : Prop :=
  ∀ (i : Instr) (s t : State), exec i s = .next t →
    let w := flagsWritten i.mnemonic
    (w.n = false → t.p.n = s.p.n) ∧ (w.v = false → t.p.v = s.p.v) ∧ (w.b = false → t.p.b = s.p.b) ∧
      (w.d = false → t.p.d = s.p.d) ∧ (w.i = false → t.p.i = s.p.i) ∧ (w.z = false → t.p.z = s.p.z) ∧
      (w.c = false → t.p.c = s.p.c)

/-- Every instruction that 10_state.md R36 does not list leaves PC after its last byte. -/
def Obligations.PcAdvancesByLength : Prop :=
  ∀ (i : Instr) (s t : State), exec i s = .next t → i.mnemonic ∉ setsPc →
    t.pc = BitVec.ofNat 16 (s.pc.toNat + i.length)

/-- Exactly one bus access is made in every clock, in every step (20_memory.md R66). -/
def Obligations.OneAccessPerClock : Prop :=
  ∀ s t : State, step s = .next t → t.clock = s.clock + t.cycles.length

/-- A byte of memory changes in a step only where a write of that step put it, at an address of plain memory (the
model's address map, logs 5 to 7). -/
def Obligations.MemoryChangesOnlyByWrites : Prop :=
  ∀ (s t : State) (n : Nat), step s = .next t → Memory.read t.mem n ≠ Memory.read s.mem n →
    ∃ c ∈ t.cycles, c.kind = .write ∧ c.addr.toNat = n ∧ targetAt s.board c.addr = .memory ∧
      c.data = Memory.read t.mem n

/-- No step changes the board, and the CPU sets no input line: IRQ is the environment's, a RESET request or an NMI is at
most consumed by its own sequence (10_state.md R39, 60_exceptions.md R251 to R253). A RESET leaves the NMI latch open.
That the map never changes is the model's choice (log 5), the reading of the lines is D6 and log 12. -/
def Obligations.StepKeepsPlatform : Prop :=
  ∀ s t : State, step s = .next t →
    let b := atBoundary s
    t.board = s.board ∧ t.env = b.env ∧ t.irqLine = b.irqLine ∧ t.resetReq = false ∧
      (b.resetReq = false → t.nmiPending = false)

/-- The stored B is not observable: two states that differ in it run alike for any number of steps, but for the stored B
(10_state.md R29, derived there; D15, log 25). -/
def Obligations.StoredBreakFlagUnobservable : Prop :=
  ∀ (n : Nat) (s : State) (b : Bool), AgreeButB (Sys2Proof.core.run n s) (Sys2Proof.core.run n (withB b s))

/-- No instruction's effect depends on D, but for those that push P, load P or write D (10_state.md R31). -/
def Obligations.DecimalFlagHasNoEffect : Prop :=
  ∀ (i : Instr) (s t : State) (d : Bool), i.mnemonic ∉ ([.PHP, .PLP, .RTI, .BRK, .CLD, .SED] : List Mnemonic) →
    exec i s = .next t → exec i (withD d s) = .next (withD d t)

/-- Every step keeps the invariant, from every state that has it. -/
def Obligations.StepKeepsInvariant : Prop := ∀ s t : State, GoodState s → step s = .next t → GoodState t

/-- The reset state has the invariant. -/
def Obligations.ResetHasInvariant : Prop := GoodState State.reset
end

