-- ==== Sys2Proof/Laws/State.lean ====
section
/-! SUPPORT. The simp set of the state: what each update of the state leaves in each field, and what the bus reads after
it. Later proofs cite these and do not unfold an update. -/

namespace Sys2Proof.Laws

open Sys2Proof.Machine

@[simp] theorem setA_a (v : Byte) (s : State) : (setA v s).a = v := rfl
@[simp] theorem setA_x (v : Byte) (s : State) : (setA v s).x = s.x := rfl
@[simp] theorem setA_y (v : Byte) (s : State) : (setA v s).y = s.y := rfl
@[simp] theorem setA_sp (v : Byte) (s : State) : (setA v s).sp = s.sp := rfl
@[simp] theorem setA_pc (v : Byte) (s : State) : (setA v s).pc = s.pc := rfl
@[simp] theorem setA_p (v : Byte) (s : State) : (setA v s).p = s.p := rfl
@[simp] theorem setA_mem (v : Byte) (s : State) : (setA v s).mem = s.mem := rfl
@[simp] theorem setA_board (v : Byte) (s : State) : (setA v s).board = s.board := rfl
@[simp] theorem setA_resetReq (v : Byte) (s : State) : (setA v s).resetReq = s.resetReq := rfl
@[simp] theorem setA_nmiPending (v : Byte) (s : State) : (setA v s).nmiPending = s.nmiPending := rfl
@[simp] theorem setA_irqLine (v : Byte) (s : State) : (setA v s).irqLine = s.irqLine := rfl
@[simp] theorem setA_afterBrk (v : Byte) (s : State) : (setA v s).afterBrk = s.afterBrk := rfl
@[simp] theorem setA_env (v : Byte) (s : State) : (setA v s).env = s.env := rfl
@[simp] theorem setA_clock (v : Byte) (s : State) : (setA v s).clock = s.clock := rfl
@[simp] theorem setA_cycles (v : Byte) (s : State) : (setA v s).cycles = s.cycles := rfl
@[simp] theorem busValue_setA (v : Byte) (s : State) (n : Nat) (a : Addr) :
    busValue (setA v s) n a = busValue s n a := rfl

@[simp] theorem setX_a (v : Byte) (s : State) : (setX v s).a = s.a := rfl
@[simp] theorem setX_x (v : Byte) (s : State) : (setX v s).x = v := rfl
@[simp] theorem setX_y (v : Byte) (s : State) : (setX v s).y = s.y := rfl
@[simp] theorem setX_sp (v : Byte) (s : State) : (setX v s).sp = s.sp := rfl
@[simp] theorem setX_pc (v : Byte) (s : State) : (setX v s).pc = s.pc := rfl
@[simp] theorem setX_p (v : Byte) (s : State) : (setX v s).p = s.p := rfl
@[simp] theorem setX_mem (v : Byte) (s : State) : (setX v s).mem = s.mem := rfl
@[simp] theorem setX_board (v : Byte) (s : State) : (setX v s).board = s.board := rfl
@[simp] theorem setX_resetReq (v : Byte) (s : State) : (setX v s).resetReq = s.resetReq := rfl
@[simp] theorem setX_nmiPending (v : Byte) (s : State) : (setX v s).nmiPending = s.nmiPending := rfl
@[simp] theorem setX_irqLine (v : Byte) (s : State) : (setX v s).irqLine = s.irqLine := rfl
@[simp] theorem setX_afterBrk (v : Byte) (s : State) : (setX v s).afterBrk = s.afterBrk := rfl
@[simp] theorem setX_env (v : Byte) (s : State) : (setX v s).env = s.env := rfl
@[simp] theorem setX_clock (v : Byte) (s : State) : (setX v s).clock = s.clock := rfl
@[simp] theorem setX_cycles (v : Byte) (s : State) : (setX v s).cycles = s.cycles := rfl
@[simp] theorem busValue_setX (v : Byte) (s : State) (n : Nat) (a : Addr) :
    busValue (setX v s) n a = busValue s n a := rfl

@[simp] theorem setY_a (v : Byte) (s : State) : (setY v s).a = s.a := rfl
@[simp] theorem setY_x (v : Byte) (s : State) : (setY v s).x = s.x := rfl
@[simp] theorem setY_y (v : Byte) (s : State) : (setY v s).y = v := rfl
@[simp] theorem setY_sp (v : Byte) (s : State) : (setY v s).sp = s.sp := rfl
@[simp] theorem setY_pc (v : Byte) (s : State) : (setY v s).pc = s.pc := rfl
@[simp] theorem setY_p (v : Byte) (s : State) : (setY v s).p = s.p := rfl
@[simp] theorem setY_mem (v : Byte) (s : State) : (setY v s).mem = s.mem := rfl
@[simp] theorem setY_board (v : Byte) (s : State) : (setY v s).board = s.board := rfl
@[simp] theorem setY_resetReq (v : Byte) (s : State) : (setY v s).resetReq = s.resetReq := rfl
@[simp] theorem setY_nmiPending (v : Byte) (s : State) : (setY v s).nmiPending = s.nmiPending := rfl
@[simp] theorem setY_irqLine (v : Byte) (s : State) : (setY v s).irqLine = s.irqLine := rfl
@[simp] theorem setY_afterBrk (v : Byte) (s : State) : (setY v s).afterBrk = s.afterBrk := rfl
@[simp] theorem setY_env (v : Byte) (s : State) : (setY v s).env = s.env := rfl
@[simp] theorem setY_clock (v : Byte) (s : State) : (setY v s).clock = s.clock := rfl
@[simp] theorem setY_cycles (v : Byte) (s : State) : (setY v s).cycles = s.cycles := rfl
@[simp] theorem busValue_setY (v : Byte) (s : State) (n : Nat) (a : Addr) :
    busValue (setY v s) n a = busValue s n a := rfl

@[simp] theorem setSp_a (v : Byte) (s : State) : (setSp v s).a = s.a := rfl
@[simp] theorem setSp_x (v : Byte) (s : State) : (setSp v s).x = s.x := rfl
@[simp] theorem setSp_y (v : Byte) (s : State) : (setSp v s).y = s.y := rfl
@[simp] theorem setSp_sp (v : Byte) (s : State) : (setSp v s).sp = v := rfl
@[simp] theorem setSp_pc (v : Byte) (s : State) : (setSp v s).pc = s.pc := rfl
@[simp] theorem setSp_p (v : Byte) (s : State) : (setSp v s).p = s.p := rfl
@[simp] theorem setSp_mem (v : Byte) (s : State) : (setSp v s).mem = s.mem := rfl
@[simp] theorem setSp_board (v : Byte) (s : State) : (setSp v s).board = s.board := rfl
@[simp] theorem setSp_resetReq (v : Byte) (s : State) : (setSp v s).resetReq = s.resetReq := rfl
@[simp] theorem setSp_nmiPending (v : Byte) (s : State) : (setSp v s).nmiPending = s.nmiPending := rfl
@[simp] theorem setSp_irqLine (v : Byte) (s : State) : (setSp v s).irqLine = s.irqLine := rfl
@[simp] theorem setSp_afterBrk (v : Byte) (s : State) : (setSp v s).afterBrk = s.afterBrk := rfl
@[simp] theorem setSp_env (v : Byte) (s : State) : (setSp v s).env = s.env := rfl
@[simp] theorem setSp_clock (v : Byte) (s : State) : (setSp v s).clock = s.clock := rfl
@[simp] theorem setSp_cycles (v : Byte) (s : State) : (setSp v s).cycles = s.cycles := rfl
@[simp] theorem busValue_setSp (v : Byte) (s : State) (n : Nat) (a : Addr) :
    busValue (setSp v s) n a = busValue s n a := rfl

@[simp] theorem setPc_a (v : Addr) (s : State) : (setPc v s).a = s.a := rfl
@[simp] theorem setPc_x (v : Addr) (s : State) : (setPc v s).x = s.x := rfl
@[simp] theorem setPc_y (v : Addr) (s : State) : (setPc v s).y = s.y := rfl
@[simp] theorem setPc_sp (v : Addr) (s : State) : (setPc v s).sp = s.sp := rfl
@[simp] theorem setPc_pc (v : Addr) (s : State) : (setPc v s).pc = v := rfl
@[simp] theorem setPc_p (v : Addr) (s : State) : (setPc v s).p = s.p := rfl
@[simp] theorem setPc_mem (v : Addr) (s : State) : (setPc v s).mem = s.mem := rfl
@[simp] theorem setPc_board (v : Addr) (s : State) : (setPc v s).board = s.board := rfl
@[simp] theorem setPc_resetReq (v : Addr) (s : State) : (setPc v s).resetReq = s.resetReq := rfl
@[simp] theorem setPc_nmiPending (v : Addr) (s : State) : (setPc v s).nmiPending = s.nmiPending := rfl
@[simp] theorem setPc_irqLine (v : Addr) (s : State) : (setPc v s).irqLine = s.irqLine := rfl
@[simp] theorem setPc_afterBrk (v : Addr) (s : State) : (setPc v s).afterBrk = s.afterBrk := rfl
@[simp] theorem setPc_env (v : Addr) (s : State) : (setPc v s).env = s.env := rfl
@[simp] theorem setPc_clock (v : Addr) (s : State) : (setPc v s).clock = s.clock := rfl
@[simp] theorem setPc_cycles (v : Addr) (s : State) : (setPc v s).cycles = s.cycles := rfl
@[simp] theorem busValue_setPc (v : Addr) (s : State) (n : Nat) (a : Addr) :
    busValue (setPc v s) n a = busValue s n a := rfl

@[simp] theorem setP_a (v : Status) (s : State) : (setP v s).a = s.a := rfl
@[simp] theorem setP_x (v : Status) (s : State) : (setP v s).x = s.x := rfl
@[simp] theorem setP_y (v : Status) (s : State) : (setP v s).y = s.y := rfl
@[simp] theorem setP_sp (v : Status) (s : State) : (setP v s).sp = s.sp := rfl
@[simp] theorem setP_pc (v : Status) (s : State) : (setP v s).pc = s.pc := rfl
@[simp] theorem setP_p (v : Status) (s : State) : (setP v s).p = v := rfl
@[simp] theorem setP_mem (v : Status) (s : State) : (setP v s).mem = s.mem := rfl
@[simp] theorem setP_board (v : Status) (s : State) : (setP v s).board = s.board := rfl
@[simp] theorem setP_resetReq (v : Status) (s : State) : (setP v s).resetReq = s.resetReq := rfl
@[simp] theorem setP_nmiPending (v : Status) (s : State) : (setP v s).nmiPending = s.nmiPending := rfl
@[simp] theorem setP_irqLine (v : Status) (s : State) : (setP v s).irqLine = s.irqLine := rfl
@[simp] theorem setP_afterBrk (v : Status) (s : State) : (setP v s).afterBrk = s.afterBrk := rfl
@[simp] theorem setP_env (v : Status) (s : State) : (setP v s).env = s.env := rfl
@[simp] theorem setP_clock (v : Status) (s : State) : (setP v s).clock = s.clock := rfl
@[simp] theorem setP_cycles (v : Status) (s : State) : (setP v s).cycles = s.cycles := rfl
@[simp] theorem busValue_setP (v : Status) (s : State) (n : Nat) (a : Addr) :
    busValue (setP v s) n a = busValue s n a := rfl

@[simp] theorem tick_a (cyc : BusCycle) (s : State) : (tick cyc s).a = s.a := rfl
@[simp] theorem tick_x (cyc : BusCycle) (s : State) : (tick cyc s).x = s.x := rfl
@[simp] theorem tick_y (cyc : BusCycle) (s : State) : (tick cyc s).y = s.y := rfl
@[simp] theorem tick_sp (cyc : BusCycle) (s : State) : (tick cyc s).sp = s.sp := rfl
@[simp] theorem tick_pc (cyc : BusCycle) (s : State) : (tick cyc s).pc = s.pc := rfl
@[simp] theorem tick_p (cyc : BusCycle) (s : State) : (tick cyc s).p = s.p := rfl
@[simp] theorem tick_mem (cyc : BusCycle) (s : State) : (tick cyc s).mem = s.mem := rfl
@[simp] theorem tick_board (cyc : BusCycle) (s : State) : (tick cyc s).board = s.board := rfl
@[simp] theorem tick_resetReq (cyc : BusCycle) (s : State) : (tick cyc s).resetReq = s.resetReq := rfl
@[simp] theorem tick_nmiPending (cyc : BusCycle) (s : State) : (tick cyc s).nmiPending = s.nmiPending := rfl
@[simp] theorem tick_irqLine (cyc : BusCycle) (s : State) : (tick cyc s).irqLine = s.irqLine := rfl
@[simp] theorem tick_afterBrk (cyc : BusCycle) (s : State) : (tick cyc s).afterBrk = s.afterBrk := rfl
@[simp] theorem tick_env (cyc : BusCycle) (s : State) : (tick cyc s).env = s.env := rfl
@[simp] theorem tick_clock (cyc : BusCycle) (s : State) : (tick cyc s).clock = s.clock + 1 := rfl
@[simp] theorem tick_cycles (cyc : BusCycle) (s : State) : (tick cyc s).cycles = s.cycles ++ [cyc] := rfl
@[simp] theorem busValue_tick (cyc : BusCycle) (s : State) (n : Nat) (b : Addr) :
    busValue (tick cyc s) n b = busValue s n b := rfl

@[simp] theorem dummyRead_a (a : Addr) (s : State) : (dummyRead a s).a = s.a := rfl
@[simp] theorem dummyRead_x (a : Addr) (s : State) : (dummyRead a s).x = s.x := rfl
@[simp] theorem dummyRead_y (a : Addr) (s : State) : (dummyRead a s).y = s.y := rfl
@[simp] theorem dummyRead_sp (a : Addr) (s : State) : (dummyRead a s).sp = s.sp := rfl
@[simp] theorem dummyRead_pc (a : Addr) (s : State) : (dummyRead a s).pc = s.pc := rfl
@[simp] theorem dummyRead_p (a : Addr) (s : State) : (dummyRead a s).p = s.p := rfl
@[simp] theorem dummyRead_mem (a : Addr) (s : State) : (dummyRead a s).mem = s.mem := rfl
@[simp] theorem dummyRead_board (a : Addr) (s : State) : (dummyRead a s).board = s.board := rfl
@[simp] theorem dummyRead_resetReq (a : Addr) (s : State) : (dummyRead a s).resetReq = s.resetReq := rfl
@[simp] theorem dummyRead_nmiPending (a : Addr) (s : State) : (dummyRead a s).nmiPending = s.nmiPending := rfl
@[simp] theorem dummyRead_irqLine (a : Addr) (s : State) : (dummyRead a s).irqLine = s.irqLine := rfl
@[simp] theorem dummyRead_afterBrk (a : Addr) (s : State) : (dummyRead a s).afterBrk = s.afterBrk := rfl
@[simp] theorem dummyRead_env (a : Addr) (s : State) : (dummyRead a s).env = s.env := rfl
@[simp] theorem dummyRead_clock (a : Addr) (s : State) : (dummyRead a s).clock = s.clock + 1 := rfl
@[simp] theorem dummyRead_cycles (a : Addr) (s : State) :
    (dummyRead a s).cycles = s.cycles ++ [⟨.dummyRead, a, busValue s s.clock a⟩] := rfl
@[simp] theorem busValue_dummyRead (a : Addr) (s : State) (n : Nat) (b : Addr) :
    busValue (dummyRead a s) n b = busValue s n b := rfl

@[simp] theorem dummyWrite_a (a : Addr) (s : State) : (dummyWrite a s).a = s.a := rfl
@[simp] theorem dummyWrite_x (a : Addr) (s : State) : (dummyWrite a s).x = s.x := rfl
@[simp] theorem dummyWrite_y (a : Addr) (s : State) : (dummyWrite a s).y = s.y := rfl
@[simp] theorem dummyWrite_sp (a : Addr) (s : State) : (dummyWrite a s).sp = s.sp := rfl
@[simp] theorem dummyWrite_pc (a : Addr) (s : State) : (dummyWrite a s).pc = s.pc := rfl
@[simp] theorem dummyWrite_p (a : Addr) (s : State) : (dummyWrite a s).p = s.p := rfl
@[simp] theorem dummyWrite_mem (a : Addr) (s : State) : (dummyWrite a s).mem = s.mem := rfl
@[simp] theorem dummyWrite_board (a : Addr) (s : State) : (dummyWrite a s).board = s.board := rfl
@[simp] theorem dummyWrite_resetReq (a : Addr) (s : State) : (dummyWrite a s).resetReq = s.resetReq := rfl
@[simp] theorem dummyWrite_nmiPending (a : Addr) (s : State) : (dummyWrite a s).nmiPending = s.nmiPending := rfl
@[simp] theorem dummyWrite_irqLine (a : Addr) (s : State) : (dummyWrite a s).irqLine = s.irqLine := rfl
@[simp] theorem dummyWrite_afterBrk (a : Addr) (s : State) : (dummyWrite a s).afterBrk = s.afterBrk := rfl
@[simp] theorem dummyWrite_env (a : Addr) (s : State) : (dummyWrite a s).env = s.env := rfl
@[simp] theorem dummyWrite_clock (a : Addr) (s : State) : (dummyWrite a s).clock = s.clock + 1 := rfl
@[simp] theorem dummyWrite_cycles (a : Addr) (s : State) :
    (dummyWrite a s).cycles = s.cycles ++ [⟨.dummyWrite, a, Config.garbageByte s.clock⟩] := rfl
@[simp] theorem busValue_dummyWrite (a : Addr) (s : State) (n : Nat) (b : Addr) :
    busValue (dummyWrite a s) n b = busValue s n b := rfl

@[simp] theorem memRead_value (a : Addr) (s : State) : (memRead a s).1 = busValue s s.clock a := rfl
@[simp] theorem memRead_a (a : Addr) (s : State) : ((memRead a s).2).a = s.a := rfl
@[simp] theorem memRead_x (a : Addr) (s : State) : ((memRead a s).2).x = s.x := rfl
@[simp] theorem memRead_y (a : Addr) (s : State) : ((memRead a s).2).y = s.y := rfl
@[simp] theorem memRead_sp (a : Addr) (s : State) : ((memRead a s).2).sp = s.sp := rfl
@[simp] theorem memRead_pc (a : Addr) (s : State) : ((memRead a s).2).pc = s.pc := rfl
@[simp] theorem memRead_p (a : Addr) (s : State) : ((memRead a s).2).p = s.p := rfl
@[simp] theorem memRead_mem (a : Addr) (s : State) : ((memRead a s).2).mem = s.mem := rfl
@[simp] theorem memRead_board (a : Addr) (s : State) : ((memRead a s).2).board = s.board := rfl
@[simp] theorem memRead_resetReq (a : Addr) (s : State) : ((memRead a s).2).resetReq = s.resetReq := rfl
@[simp] theorem memRead_nmiPending (a : Addr) (s : State) : ((memRead a s).2).nmiPending = s.nmiPending := rfl
@[simp] theorem memRead_irqLine (a : Addr) (s : State) : ((memRead a s).2).irqLine = s.irqLine := rfl
@[simp] theorem memRead_afterBrk (a : Addr) (s : State) : ((memRead a s).2).afterBrk = s.afterBrk := rfl
@[simp] theorem memRead_env (a : Addr) (s : State) : ((memRead a s).2).env = s.env := rfl
@[simp] theorem memRead_clock (a : Addr) (s : State) : ((memRead a s).2).clock = s.clock + 1 := rfl
@[simp] theorem memRead_cycles (a : Addr) (s : State) :
    ((memRead a s).2).cycles = s.cycles ++ [⟨.read, a, busValue s s.clock a⟩] := rfl
@[simp] theorem busValue_memRead (a : Addr) (s : State) (n : Nat) (b : Addr) :
    busValue ((memRead a s).2) n b = busValue s n b := rfl

@[simp] theorem fetchCycle_a (s : State) : (fetchCycle s).a = s.a := rfl
@[simp] theorem fetchCycle_x (s : State) : (fetchCycle s).x = s.x := rfl
@[simp] theorem fetchCycle_y (s : State) : (fetchCycle s).y = s.y := rfl
@[simp] theorem fetchCycle_sp (s : State) : (fetchCycle s).sp = s.sp := rfl
@[simp] theorem fetchCycle_pc (s : State) : (fetchCycle s).pc = s.pc + 1 := rfl
@[simp] theorem fetchCycle_p (s : State) : (fetchCycle s).p = s.p := rfl
@[simp] theorem fetchCycle_mem (s : State) : (fetchCycle s).mem = s.mem := rfl
@[simp] theorem fetchCycle_board (s : State) : (fetchCycle s).board = s.board := rfl
@[simp] theorem fetchCycle_resetReq (s : State) : (fetchCycle s).resetReq = s.resetReq := rfl
@[simp] theorem fetchCycle_nmiPending (s : State) : (fetchCycle s).nmiPending = s.nmiPending := rfl
@[simp] theorem fetchCycle_irqLine (s : State) : (fetchCycle s).irqLine = s.irqLine := rfl
@[simp] theorem fetchCycle_afterBrk (s : State) : (fetchCycle s).afterBrk = s.afterBrk := rfl
@[simp] theorem fetchCycle_env (s : State) : (fetchCycle s).env = s.env := rfl
@[simp] theorem fetchCycle_clock (s : State) : (fetchCycle s).clock = s.clock + 1 := rfl
@[simp] theorem fetchCycle_cycles (s : State) :
    (fetchCycle s).cycles = s.cycles ++ [⟨.read, s.pc, busValue s s.clock s.pc⟩] := rfl
@[simp] theorem busValue_fetchCycle (s : State) (n : Nat) (b : Addr) :
    busValue (fetchCycle s) n b = busValue s n b := rfl

/-- Everything a write does (20_memory.md R65). -/
theorem memWrite_eq (a : Addr) (v : Byte) (s : State) :
    memWrite a v s = { s with
      clock := s.clock + 1, cycles := s.cycles ++ [⟨.write, a, v⟩]
      mem := if targetAt s.board a = .memory then Memory.write s.mem a.toNat v else s.mem } := by
  unfold memWrite tick
  split <;> simp_all

@[simp] theorem memWrite_a (a : Addr) (v : Byte) (s : State) :
    (memWrite a v s).a = s.a := by rw [memWrite_eq]
@[simp] theorem memWrite_x (a : Addr) (v : Byte) (s : State) :
    (memWrite a v s).x = s.x := by rw [memWrite_eq]
@[simp] theorem memWrite_y (a : Addr) (v : Byte) (s : State) :
    (memWrite a v s).y = s.y := by rw [memWrite_eq]
@[simp] theorem memWrite_sp (a : Addr) (v : Byte) (s : State) :
    (memWrite a v s).sp = s.sp := by rw [memWrite_eq]
@[simp] theorem memWrite_pc (a : Addr) (v : Byte) (s : State) :
    (memWrite a v s).pc = s.pc := by rw [memWrite_eq]
@[simp] theorem memWrite_p (a : Addr) (v : Byte) (s : State) :
    (memWrite a v s).p = s.p := by rw [memWrite_eq]
@[simp] theorem memWrite_mem (a : Addr) (v : Byte) (s : State) :
    (memWrite a v s).mem = if targetAt s.board a = .memory then Memory.write s.mem a.toNat v else s.mem := by rw [memWrite_eq]
@[simp] theorem memWrite_board (a : Addr) (v : Byte) (s : State) :
    (memWrite a v s).board = s.board := by rw [memWrite_eq]
@[simp] theorem memWrite_resetReq (a : Addr) (v : Byte) (s : State) :
    (memWrite a v s).resetReq = s.resetReq := by rw [memWrite_eq]
@[simp] theorem memWrite_nmiPending (a : Addr) (v : Byte) (s : State) :
    (memWrite a v s).nmiPending = s.nmiPending := by rw [memWrite_eq]
@[simp] theorem memWrite_irqLine (a : Addr) (v : Byte) (s : State) :
    (memWrite a v s).irqLine = s.irqLine := by rw [memWrite_eq]
@[simp] theorem memWrite_afterBrk (a : Addr) (v : Byte) (s : State) :
    (memWrite a v s).afterBrk = s.afterBrk := by rw [memWrite_eq]
@[simp] theorem memWrite_env (a : Addr) (v : Byte) (s : State) :
    (memWrite a v s).env = s.env := by rw [memWrite_eq]
@[simp] theorem memWrite_clock (a : Addr) (v : Byte) (s : State) :
    (memWrite a v s).clock = s.clock + 1 := by rw [memWrite_eq]
@[simp] theorem memWrite_cycles (a : Addr) (v : Byte) (s : State) :
    (memWrite a v s).cycles = s.cycles ++ [⟨.write, a, v⟩] := by rw [memWrite_eq]

@[simp] theorem push_a (v : Byte) (s : State) :
    (push v s).a = s.a := by simp [push]
@[simp] theorem push_x (v : Byte) (s : State) :
    (push v s).x = s.x := by simp [push]
@[simp] theorem push_y (v : Byte) (s : State) :
    (push v s).y = s.y := by simp [push]
@[simp] theorem push_sp (v : Byte) (s : State) :
    (push v s).sp = s.sp - 1 := by simp [push]
@[simp] theorem push_pc (v : Byte) (s : State) :
    (push v s).pc = s.pc := by simp [push]
@[simp] theorem push_p (v : Byte) (s : State) :
    (push v s).p = s.p := by simp [push]
@[simp] theorem push_mem (v : Byte) (s : State) :
    (push v s).mem = if targetAt s.board (stackAddr s.sp) = .memory then Memory.write s.mem (stackAddr s.sp).toNat v else s.mem := by simp [push]
@[simp] theorem push_board (v : Byte) (s : State) :
    (push v s).board = s.board := by simp [push]
@[simp] theorem push_resetReq (v : Byte) (s : State) :
    (push v s).resetReq = s.resetReq := by simp [push]
@[simp] theorem push_nmiPending (v : Byte) (s : State) :
    (push v s).nmiPending = s.nmiPending := by simp [push]
@[simp] theorem push_irqLine (v : Byte) (s : State) :
    (push v s).irqLine = s.irqLine := by simp [push]
@[simp] theorem push_afterBrk (v : Byte) (s : State) :
    (push v s).afterBrk = s.afterBrk := by simp [push]
@[simp] theorem push_env (v : Byte) (s : State) :
    (push v s).env = s.env := by simp [push]
@[simp] theorem push_clock (v : Byte) (s : State) :
    (push v s).clock = s.clock + 1 := by simp [push]
@[simp] theorem push_cycles (v : Byte) (s : State) :
    (push v s).cycles = s.cycles ++ [⟨.write, stackAddr s.sp, v⟩] := by simp [push]

@[simp] theorem pull_value (s : State) : (pull s).1 = busValue s s.clock (stackAddr (s.sp + 1)) := rfl
@[simp] theorem pull_a (s : State) : (pull s).2.a = s.a := rfl
@[simp] theorem pull_x (s : State) : (pull s).2.x = s.x := rfl
@[simp] theorem pull_y (s : State) : (pull s).2.y = s.y := rfl
@[simp] theorem pull_sp (s : State) : (pull s).2.sp = s.sp + 1 := rfl
@[simp] theorem pull_pc (s : State) : (pull s).2.pc = s.pc := rfl
@[simp] theorem pull_p (s : State) : (pull s).2.p = s.p := rfl
@[simp] theorem pull_mem (s : State) : (pull s).2.mem = s.mem := rfl
@[simp] theorem pull_board (s : State) : (pull s).2.board = s.board := rfl
@[simp] theorem pull_resetReq (s : State) : (pull s).2.resetReq = s.resetReq := rfl
@[simp] theorem pull_nmiPending (s : State) : (pull s).2.nmiPending = s.nmiPending := rfl
@[simp] theorem pull_irqLine (s : State) : (pull s).2.irqLine = s.irqLine := rfl
@[simp] theorem pull_afterBrk (s : State) : (pull s).2.afterBrk = s.afterBrk := rfl
@[simp] theorem pull_env (s : State) : (pull s).2.env = s.env := rfl
@[simp] theorem pull_clock (s : State) : (pull s).2.clock = s.clock + 1 := rfl
@[simp] theorem pull_cycles (s : State) :
    (pull s).2.cycles = s.cycles ++ [⟨.read, stackAddr (s.sp + 1), busValue s s.clock (stackAddr (s.sp + 1))⟩] := rfl
@[simp] theorem busValue_pull (s : State) (n : Nat) (a : Addr) : busValue (pull s).2 n a = busValue s n a := rfl

@[simp] theorem openReads_a (l : List Addr) (s : State) : (openReads l s).a = s.a := rfl
@[simp] theorem openReads_x (l : List Addr) (s : State) : (openReads l s).x = s.x := rfl
@[simp] theorem openReads_y (l : List Addr) (s : State) : (openReads l s).y = s.y := rfl
@[simp] theorem openReads_sp (l : List Addr) (s : State) : (openReads l s).sp = s.sp := rfl
@[simp] theorem openReads_pc (l : List Addr) (s : State) : (openReads l s).pc = s.pc := rfl
@[simp] theorem openReads_p (l : List Addr) (s : State) : (openReads l s).p = s.p := rfl
@[simp] theorem openReads_mem (l : List Addr) (s : State) : (openReads l s).mem = s.mem := rfl
@[simp] theorem openReads_board (l : List Addr) (s : State) : (openReads l s).board = s.board := rfl
@[simp] theorem openReads_resetReq (l : List Addr) (s : State) : (openReads l s).resetReq = s.resetReq := rfl
@[simp] theorem openReads_nmiPending (l : List Addr) (s : State) : (openReads l s).nmiPending = s.nmiPending := rfl
@[simp] theorem openReads_irqLine (l : List Addr) (s : State) : (openReads l s).irqLine = s.irqLine := rfl
@[simp] theorem openReads_afterBrk (l : List Addr) (s : State) : (openReads l s).afterBrk = s.afterBrk := rfl
@[simp] theorem openReads_env (l : List Addr) (s : State) : (openReads l s).env = s.env := rfl
@[simp] theorem openReads_clock (l : List Addr) (s : State) : (openReads l s).clock = s.clock + l.length := rfl
@[simp] theorem openReads_cycles (l : List Addr) (s : State) : (openReads l s).cycles = s.cycles ++ dummyReadCycles s s.clock l := rfl

@[simp] theorem startInstr_a (s : State) : (startInstr s).a = s.a := rfl
@[simp] theorem startInstr_x (s : State) : (startInstr s).x = s.x := rfl
@[simp] theorem startInstr_y (s : State) : (startInstr s).y = s.y := rfl
@[simp] theorem startInstr_sp (s : State) : (startInstr s).sp = s.sp := rfl
@[simp] theorem startInstr_pc (s : State) : (startInstr s).pc = s.pc := rfl
@[simp] theorem startInstr_p (s : State) : (startInstr s).p = s.p := rfl
@[simp] theorem startInstr_mem (s : State) : (startInstr s).mem = s.mem := rfl
@[simp] theorem startInstr_board (s : State) : (startInstr s).board = s.board := rfl
@[simp] theorem startInstr_resetReq (s : State) : (startInstr s).resetReq = s.resetReq := rfl
@[simp] theorem startInstr_nmiPending (s : State) : (startInstr s).nmiPending = s.nmiPending := rfl
@[simp] theorem startInstr_irqLine (s : State) : (startInstr s).irqLine = s.irqLine := rfl
@[simp] theorem startInstr_afterBrk (s : State) : (startInstr s).afterBrk = false := rfl
@[simp] theorem startInstr_env (s : State) : (startInstr s).env = s.env := rfl
@[simp] theorem startInstr_clock (s : State) : (startInstr s).clock = s.clock := rfl
@[simp] theorem startInstr_cycles (s : State) : (startInstr s).cycles = s.cycles := rfl
@[simp] theorem busValue_startInstr (s : State) (n : Nat) (a : Addr) : busValue (startInstr s) n a = busValue s n a := rfl

end Sys2Proof.Laws
end

