-- ==== Sys2Proof/Laws/Memory.lean ====
section
/-! SUPPORT. The laws of memory: a read after a write, and that every memory operation keeps the canonical form. The read
laws hold of every list of cells, canonical or not. -/

namespace Sys2Proof.Laws

open Sys2Proof.Machine

@[simp] theorem read_nil (n : Nat) : Memory.read [] n = Config.unlistedByte := rfl

theorem read_remove (m : Memory) (a n : Nat) :
    Memory.read (Memory.remove a m) n = if n = a then Config.unlistedByte else Memory.read m n := by
  induction m with
  | nil => simp [Memory.remove]
  | cons c rest ih =>
    obtain ⟨k, w⟩ := c
    by_cases hk : k = a
    · subst hk
      by_cases hn : n = k
      · subst hn; simp [Memory.remove, ih]
      · simp [Memory.remove, Memory.read, ih, hn, Ne.symm hn]
    · by_cases hn : k = n
      · subst hn; simp [Memory.remove, Memory.read, hk]
      · simp [Memory.remove, Memory.read, hk, hn, ih]

theorem read_place (m : Memory) (a n : Nat) (v : Byte) (h : Memory.read m a = Config.unlistedByte)
    (hm : ∀ c ∈ m, c.1 ≠ a) : Memory.read (Memory.place a v m) n = if n = a then v else Memory.read m n := by
  induction m with
  | nil => simp [Memory.place, Memory.read, eq_comm]
  | cons c rest ih =>
    obtain ⟨k, w⟩ := c
    have hk : k ≠ a := hm (k, w) (by simp)
    have ih' := ih (by simpa [Memory.read, hk] using h) (fun c hc => hm c (by simp [hc]))
    by_cases hlt : a < k
    · simp [Memory.place, Memory.read, hlt, eq_comm]
    · by_cases hn : k = n
      · subst hn; simp [Memory.place, Memory.read, hlt, hk]
      · simp [Memory.place, Memory.read, hlt, hn, ih']

theorem remove_no_cell (m : Memory) (a : Nat) : ∀ c ∈ Memory.remove a m, c.1 ≠ a := by
  induction m with
  | nil => simp [Memory.remove]
  | cons c rest ih =>
    obtain ⟨k, w⟩ := c
    by_cases hk : k = a
    · simpa [Memory.remove, hk] using ih
    · intro c hc
      simp only [Memory.remove, hk, if_false, List.mem_cons] at hc
      rcases hc with rfl | hc
      · exact hk
      · exact ih c hc

/-- Read after write (20_memory.md R64, R65). -/
theorem read_write (m : Memory) (a n : Nat) (v : Byte) :
    Memory.read (Memory.write m a v) n = if n = a then v else Memory.read m n := by
  unfold Memory.write
  split
  · rename_i hv; rw [read_remove, hv]
  · rw [read_place _ _ _ _ (by simp [read_remove]) (remove_no_cell m a), read_remove]
    by_cases hn : n = a <;> simp [hn]

theorem wfFrom_mono (m : Memory) {lo lo' : Nat} (h : lo' ≤ lo) (hm : Memory.wfFrom lo m = true) :
    Memory.wfFrom lo' m = true := by
  cases m with
  | nil => rfl
  | cons c rest =>
    obtain ⟨k, w⟩ := c
    simp only [Memory.wfFrom, Bool.and_eq_true, decide_eq_true_eq] at hm ⊢
    exact ⟨⟨⟨by omega, hm.1.1.2⟩, hm.1.2⟩, hm.2⟩

theorem wfFrom_remove (m : Memory) (a lo : Nat) (hm : Memory.wfFrom lo m = true) :
    Memory.wfFrom lo (Memory.remove a m) = true := by
  induction m generalizing lo with
  | nil => rfl
  | cons c rest ih =>
    obtain ⟨k, w⟩ := c
    simp only [Memory.wfFrom, Bool.and_eq_true, decide_eq_true_eq] at hm
    by_cases hk : k = a
    · simp only [Memory.remove, hk, if_true]
      exact wfFrom_mono _ (by omega) (ih (k + 1) hm.2)
    · simp only [Memory.remove, hk, if_false, Memory.wfFrom, Bool.and_eq_true, decide_eq_true_eq]
      exact ⟨hm.1, ih (k + 1) hm.2⟩

theorem wfFrom_place (m : Memory) (a lo : Nat) (v : Byte) (ha : a < 65536) (hlo : lo ≤ a)
    (hv : v ≠ Config.unlistedByte) (hc : ∀ c ∈ m, c.1 ≠ a) (hm : Memory.wfFrom lo m = true) :
    Memory.wfFrom lo (Memory.place a v m) = true := by
  induction m generalizing lo with
  | nil => simp [Memory.place, Memory.wfFrom, ha, hlo, hv]
  | cons c rest ih =>
    obtain ⟨k, w⟩ := c
    simp only [Memory.wfFrom, Bool.and_eq_true, decide_eq_true_eq] at hm
    have hk : k ≠ a := hc (k, w) (by simp)
    by_cases hlt : a < k
    · simp only [Memory.place, hlt, if_true, Memory.wfFrom, Bool.and_eq_true, decide_eq_true_eq, bne_iff_ne, ne_eq]
      exact ⟨⟨⟨hlo, ha⟩, hv⟩, ⟨⟨by omega, hm.1.1.2⟩, by simpa using hm.1.2⟩, hm.2⟩
    · simp only [Memory.place, hlt, if_false, Memory.wfFrom, Bool.and_eq_true, decide_eq_true_eq]
      exact ⟨hm.1, ih (k + 1) (by omega) (fun c h => hc c (by simp [h])) hm.2⟩

/-- A write inside the address space keeps the canonical form. -/
theorem wf_write (m : Memory) (a : Nat) (v : Byte) (ha : a < 65536) (hm : Memory.wf m = true) :
    Memory.wf (Memory.write m a v) = true := by
  unfold Memory.write
  split
  · exact wfFrom_remove m a 0 hm
  · rename_i hv
    exact wfFrom_place _ a 0 v ha (by omega) hv (remove_no_cell m a) (wfFrom_remove m a 0 hm)

/-- The reset memory has the canonical form. -/
theorem wf_reset : Memory.wf State.reset.mem = true := rfl

theorem addr_lt (a : Addr) : a.toNat < 65536 := a.isLt

/-- A bus write keeps the canonical form. -/
theorem wf_memWrite (a : Addr) (v : Byte) (s : State) (h : Memory.wf s.mem = true) :
    Memory.wf (memWrite a v s).mem = true := by
  rw [memWrite_mem]
  split
  · exact wf_write _ _ _ (addr_lt a) h
  · exact h

/-- Where no device answers, a bus read gives what memory holds (20_memory.md R64). -/
theorem busValue_plain (s : State) (n : Nat) (a : Addr) (h : targetAt s.board a ≠ .device) :
    busValue s n a = Memory.read s.mem a.toNat := by
  unfold busValue
  split <;> simp_all

/-- The bus after a write: the written byte at that address if it is plain memory, everything else as before
(20_memory.md R64, R65). -/
theorem busValue_memWrite (a b : Addr) (v : Byte) (s : State) (n : Nat) :
    busValue (memWrite a v s) n b = if b = a ∧ targetAt s.board a = .memory then v else busValue s n b := by
  unfold busValue
  simp only [memWrite_board, memWrite_mem]
  by_cases hb : b = a
  · subst hb
    cases h : targetAt s.board b <;> simp [read_write]
  · have hne : b.toNat ≠ a.toNat := fun h => hb (BitVec.eq_of_toNat_eq h)
    cases h : targetAt s.board b <;> by_cases ht : targetAt s.board a = .memory <;> simp [hb, ht, read_write, hne]

/-- The dummy write of a read-modify-write instruction leaves no trace on plain memory: writing a garbage byte first and
then the result holds the same bytes as writing the result (20_memory.md R67; log 8). -/
theorem read_garbage_write (m : Memory) (a n : Nat) (g v : Byte) :
    Memory.read (Memory.write (Memory.write m a g) a v) n = Memory.read (Memory.write m a v) n := by
  simp only [read_write]; split <;> rfl

end Sys2Proof.Laws
end

