-- ==== Sys2Proof/Laws/Operands.lean ====
section
/-! SUPPORT. What forming an address, reading an operand, saving and vectoring can do: which fields they leave alone and
where PC ends. Each lemma says it once for all modes or all kinds. -/

namespace Sys2Proof.Laws

open Sys2Proof.Machine

/-- How many operand bytes a memory operand has (30_encoding.md R91). -/
def operandBytes : MemOperand → Nat
  | .zeroPage _ | .zeroPageX _ | .zeroPageY _ | .indirectX _ | .indirectY _ => 1
  | .absolute _ _ | .absoluteX _ _ | .absoluteY _ _ => 2

@[simp] theorem resolve_a (m : MemOperand) (s : State) : (resolve m s).2.a = s.a := by
  cases m <;> simp only [resolve] <;> (try split) <;> rfl

@[simp] theorem resolve_x (m : MemOperand) (s : State) : (resolve m s).2.x = s.x := by
  cases m <;> simp only [resolve] <;> (try split) <;> rfl

@[simp] theorem resolve_y (m : MemOperand) (s : State) : (resolve m s).2.y = s.y := by
  cases m <;> simp only [resolve] <;> (try split) <;> rfl

@[simp] theorem resolve_sp (m : MemOperand) (s : State) : (resolve m s).2.sp = s.sp := by
  cases m <;> simp only [resolve] <;> (try split) <;> rfl

@[simp] theorem resolve_p (m : MemOperand) (s : State) : (resolve m s).2.p = s.p := by
  cases m <;> simp only [resolve] <;> (try split) <;> rfl

@[simp] theorem resolve_mem (m : MemOperand) (s : State) : (resolve m s).2.mem = s.mem := by
  cases m <;> simp only [resolve] <;> (try split) <;> rfl

@[simp] theorem resolve_board (m : MemOperand) (s : State) : (resolve m s).2.board = s.board := by
  cases m <;> simp only [resolve] <;> (try split) <;> rfl

@[simp] theorem resolve_resetReq (m : MemOperand) (s : State) : (resolve m s).2.resetReq = s.resetReq := by
  cases m <;> simp only [resolve] <;> (try split) <;> rfl

@[simp] theorem resolve_nmiPending (m : MemOperand) (s : State) : (resolve m s).2.nmiPending = s.nmiPending := by
  cases m <;> simp only [resolve] <;> (try split) <;> rfl

@[simp] theorem resolve_irqLine (m : MemOperand) (s : State) : (resolve m s).2.irqLine = s.irqLine := by
  cases m <;> simp only [resolve] <;> (try split) <;> rfl

@[simp] theorem resolve_afterBrk (m : MemOperand) (s : State) : (resolve m s).2.afterBrk = s.afterBrk := by
  cases m <;> simp only [resolve] <;> (try split) <;> rfl

@[simp] theorem resolve_env (m : MemOperand) (s : State) : (resolve m s).2.env = s.env := by
  cases m <;> simp only [resolve] <;> (try split) <;> rfl

@[simp] theorem resolve_pc (m : MemOperand) (s : State) :
    (resolve m s).2.pc = s.pc + BitVec.ofNat 16 (operandBytes m) := by
  cases m <;> simp only [resolve, operandBytes] <;> (try split) <;> simp [BitVec.add_assoc]

@[simp] theorem busValue_resolve (m : MemOperand) (s : State) (n : Nat) (a : Addr) :
    busValue (resolve m s).2 n a = busValue s n a := by
  simp [busValue]

@[simp] theorem readOperand_a (o : ReadOperand) (s : State) : (readOperand o s).2.a = s.a := by
  cases o <;> simp [readOperand]

@[simp] theorem readOperand_x (o : ReadOperand) (s : State) : (readOperand o s).2.x = s.x := by
  cases o <;> simp [readOperand]

@[simp] theorem readOperand_y (o : ReadOperand) (s : State) : (readOperand o s).2.y = s.y := by
  cases o <;> simp [readOperand]

@[simp] theorem readOperand_sp (o : ReadOperand) (s : State) : (readOperand o s).2.sp = s.sp := by
  cases o <;> simp [readOperand]

@[simp] theorem readOperand_p (o : ReadOperand) (s : State) : (readOperand o s).2.p = s.p := by
  cases o <;> simp [readOperand]

@[simp] theorem readOperand_mem (o : ReadOperand) (s : State) : (readOperand o s).2.mem = s.mem := by
  cases o <;> simp [readOperand]

@[simp] theorem readOperand_board (o : ReadOperand) (s : State) : (readOperand o s).2.board = s.board := by
  cases o <;> simp [readOperand]

@[simp] theorem readOperand_resetReq (o : ReadOperand) (s : State) : (readOperand o s).2.resetReq = s.resetReq := by
  cases o <;> simp [readOperand]

@[simp] theorem readOperand_nmiPending (o : ReadOperand) (s : State) : (readOperand o s).2.nmiPending = s.nmiPending := by
  cases o <;> simp [readOperand]

@[simp] theorem readOperand_irqLine (o : ReadOperand) (s : State) : (readOperand o s).2.irqLine = s.irqLine := by
  cases o <;> simp [readOperand]

@[simp] theorem readOperand_afterBrk (o : ReadOperand) (s : State) : (readOperand o s).2.afterBrk = s.afterBrk := by
  cases o <;> simp [readOperand]

@[simp] theorem readOperand_env (o : ReadOperand) (s : State) : (readOperand o s).2.env = s.env := by
  cases o <;> simp [readOperand]

@[simp] theorem busValue_readOperand (o : ReadOperand) (s : State) (n : Nat) (a : Addr) :
    busValue (readOperand o s).2 n a = busValue s n a := by
  simp [busValue]

@[simp] theorem loadVector_a (k : InterruptKind) (s : State) : (loadVector k s).a = s.a := rfl
@[simp] theorem loadVector_x (k : InterruptKind) (s : State) : (loadVector k s).x = s.x := rfl
@[simp] theorem loadVector_y (k : InterruptKind) (s : State) : (loadVector k s).y = s.y := rfl
@[simp] theorem loadVector_sp (k : InterruptKind) (s : State) : (loadVector k s).sp = s.sp := rfl
@[simp] theorem loadVector_p (k : InterruptKind) (s : State) : (loadVector k s).p = s.p := rfl
@[simp] theorem loadVector_mem (k : InterruptKind) (s : State) : (loadVector k s).mem = s.mem := rfl
@[simp] theorem loadVector_board (k : InterruptKind) (s : State) : (loadVector k s).board = s.board := rfl
@[simp] theorem loadVector_resetReq (k : InterruptKind) (s : State) : (loadVector k s).resetReq = s.resetReq := rfl
@[simp] theorem loadVector_nmiPending (k : InterruptKind) (s : State) : (loadVector k s).nmiPending = s.nmiPending := rfl
@[simp] theorem loadVector_irqLine (k : InterruptKind) (s : State) : (loadVector k s).irqLine = s.irqLine := rfl
@[simp] theorem loadVector_afterBrk (k : InterruptKind) (s : State) : (loadVector k s).afterBrk = s.afterBrk := rfl
@[simp] theorem loadVector_env (k : InterruptKind) (s : State) : (loadVector k s).env = s.env := rfl

/-- PC after a vector fetch (60_exceptions.md R255). -/
@[simp] theorem loadVector_pc (k : InterruptKind) (s : State) :
    (loadVector k s).pc =
      mkAddr (busValue s (s.clock + 1) (vectorAddr k + 1)) (busValue s s.clock (vectorAddr k)) := rfl

@[simp] theorem loadVector_clock (k : InterruptKind) (s : State) : (loadVector k s).clock = s.clock + 2 := rfl

@[simp] theorem loadVector_cycles (k : InterruptKind) (s : State) :
    (loadVector k s).cycles = s.cycles ++ [⟨.read, vectorAddr k, busValue s s.clock (vectorAddr k)⟩] ++
      [⟨.read, vectorAddr k + 1, busValue s (s.clock + 1) (vectorAddr k + 1)⟩] := rfl

@[simp] theorem interruptMarkB_a (k : InterruptKind) (s : State) : (interruptMarkB k s).a = s.a := by
  cases k <;> rfl

@[simp] theorem interruptMarkB_x (k : InterruptKind) (s : State) : (interruptMarkB k s).x = s.x := by
  cases k <;> rfl

@[simp] theorem interruptMarkB_y (k : InterruptKind) (s : State) : (interruptMarkB k s).y = s.y := by
  cases k <;> rfl

@[simp] theorem interruptMarkB_sp (k : InterruptKind) (s : State) : (interruptMarkB k s).sp = s.sp := by
  cases k <;> rfl

@[simp] theorem interruptMarkB_mem (k : InterruptKind) (s : State) : (interruptMarkB k s).mem = s.mem := by
  cases k <;> rfl

@[simp] theorem interruptMarkB_board (k : InterruptKind) (s : State) : (interruptMarkB k s).board = s.board := by
  cases k <;> rfl

@[simp] theorem interruptMarkB_resetReq (k : InterruptKind) (s : State) : (interruptMarkB k s).resetReq = s.resetReq := by
  cases k <;> rfl

@[simp] theorem interruptMarkB_nmiPending (k : InterruptKind) (s : State) : (interruptMarkB k s).nmiPending = s.nmiPending := by
  cases k <;> rfl

@[simp] theorem interruptMarkB_irqLine (k : InterruptKind) (s : State) : (interruptMarkB k s).irqLine = s.irqLine := by
  cases k <;> rfl

@[simp] theorem interruptMarkB_afterBrk (k : InterruptKind) (s : State) : (interruptMarkB k s).afterBrk = s.afterBrk := by
  cases k <;> rfl

@[simp] theorem interruptMarkB_env (k : InterruptKind) (s : State) : (interruptMarkB k s).env = s.env := by
  cases k <;> rfl

@[simp] theorem interruptMarkB_pc (k : InterruptKind) (s : State) : (interruptMarkB k s).pc = s.pc := by
  cases k <;> rfl

@[simp] theorem interruptMarkB_cycles (k : InterruptKind) (s : State) : (interruptMarkB k s).cycles = s.cycles := by
  cases k <;> rfl

@[simp] theorem interruptMarkB_clock (k : InterruptKind) (s : State) : (interruptMarkB k s).clock = s.clock := by
  cases k <;> rfl

@[simp] theorem interruptLead_a (k : InterruptKind) (s : State) : (interruptLead k s).a = s.a := by
  cases k <;> rfl

@[simp] theorem interruptLead_x (k : InterruptKind) (s : State) : (interruptLead k s).x = s.x := by
  cases k <;> rfl

@[simp] theorem interruptLead_y (k : InterruptKind) (s : State) : (interruptLead k s).y = s.y := by
  cases k <;> rfl

@[simp] theorem interruptLead_sp (k : InterruptKind) (s : State) : (interruptLead k s).sp = s.sp := by
  cases k <;> rfl

@[simp] theorem interruptLead_p (k : InterruptKind) (s : State) : (interruptLead k s).p = s.p := by
  cases k <;> rfl

@[simp] theorem interruptLead_mem (k : InterruptKind) (s : State) : (interruptLead k s).mem = s.mem := by
  cases k <;> rfl

@[simp] theorem interruptLead_board (k : InterruptKind) (s : State) : (interruptLead k s).board = s.board := by
  cases k <;> rfl

@[simp] theorem interruptLead_resetReq (k : InterruptKind) (s : State) : (interruptLead k s).resetReq = s.resetReq := by
  cases k <;> rfl

@[simp] theorem interruptLead_nmiPending (k : InterruptKind) (s : State) : (interruptLead k s).nmiPending = s.nmiPending := by
  cases k <;> rfl

@[simp] theorem interruptLead_irqLine (k : InterruptKind) (s : State) : (interruptLead k s).irqLine = s.irqLine := by
  cases k <;> rfl

@[simp] theorem interruptLead_afterBrk (k : InterruptKind) (s : State) : (interruptLead k s).afterBrk = s.afterBrk := by
  cases k <;> rfl

@[simp] theorem interruptLead_env (k : InterruptKind) (s : State) : (interruptLead k s).env = s.env := by
  cases k <;> rfl

@[simp] theorem interruptSave_a (k : InterruptKind) (s : State) : (interruptSave k s).a = s.a := by
  cases k <;> simp [interruptSave]

@[simp] theorem interruptSave_x (k : InterruptKind) (s : State) : (interruptSave k s).x = s.x := by
  cases k <;> simp [interruptSave]

@[simp] theorem interruptSave_y (k : InterruptKind) (s : State) : (interruptSave k s).y = s.y := by
  cases k <;> simp [interruptSave]

@[simp] theorem interruptSave_p (k : InterruptKind) (s : State) : (interruptSave k s).p = s.p := by
  cases k <;> simp [interruptSave]

@[simp] theorem interruptSave_board (k : InterruptKind) (s : State) : (interruptSave k s).board = s.board := by
  cases k <;> simp [interruptSave]

@[simp] theorem interruptSave_resetReq (k : InterruptKind) (s : State) : (interruptSave k s).resetReq = s.resetReq := by
  cases k <;> simp [interruptSave]

@[simp] theorem interruptSave_nmiPending (k : InterruptKind) (s : State) : (interruptSave k s).nmiPending = s.nmiPending := by
  cases k <;> simp [interruptSave]

@[simp] theorem interruptSave_irqLine (k : InterruptKind) (s : State) : (interruptSave k s).irqLine = s.irqLine := by
  cases k <;> simp [interruptSave]

@[simp] theorem interruptSave_afterBrk (k : InterruptKind) (s : State) : (interruptSave k s).afterBrk = s.afterBrk := by
  cases k <;> simp [interruptSave]

@[simp] theorem interruptSave_env (k : InterruptKind) (s : State) : (interruptSave k s).env = s.env := by
  cases k <;> simp [interruptSave]

@[simp] theorem interruptSave_pc (k : InterruptKind) (s : State) : (interruptSave k s).pc = s.pc := by
  cases k <;> simp [interruptSave]

/-- The part of P that an interrupt entry leaves alone (60_exceptions.md R255, 10_state.md R31: D is never touched). -/
theorem interruptEntry_flags (k : InterruptKind) (s : State) :
    (interruptEntry k s).p.i = true ∧ (interruptEntry k s).p.d = s.p.d := by
  cases k <;> simp [interruptEntry, interruptFinish, applyResetDraw, interruptMarkB]

/-- An interrupt entry never touches the address map, the coming inputs or the IRQ level (60_exceptions.md R253). -/
theorem interruptEntry_platform (k : InterruptKind) (s : State) :
    (interruptEntry k s).board = s.board ∧ (interruptEntry k s).env = s.env ∧
      (interruptEntry k s).irqLine = s.irqLine := by
  cases k <;> simp [interruptEntry, interruptFinish, applyResetDraw]

/-- An interrupt entry keeps the canonical form of memory. -/
theorem wf_interruptEntry (k : InterruptKind) (s : State) (h : Memory.wf s.mem = true) :
    Memory.wf (interruptEntry k s).mem = true := by
  cases k <;>
    simp only [interruptEntry, interruptFinish, applyResetDraw, interruptSave, push, loadVector_mem, setP_mem, setSp_mem,
      dummyRead_mem, interruptMarkB_mem, interruptLead_mem] <;>
    first
    | exact h
    | (repeat' apply wf_memWrite
       simpa using h)

/-- A read operand keeps memory and a write operand keeps its canonical form. -/
theorem wf_withWrite (m : MemOperand) (reg : State → Byte) (s : State) (h : Memory.wf s.mem = true) :
    Memory.wf (withWrite m reg s).mem = true := by
  unfold withWrite; exact wf_memWrite _ _ _ (by simpa using h)

/-- A read-modify-write keeps the canonical form. -/
theorem wf_withModify (m : MemOperand) (f : Byte → Status → Byte × Status) (s : State) (h : Memory.wf s.mem = true) :
    Memory.wf (withModify m f s).mem = true := by
  unfold withModify; simp only [setP_mem]; exact wf_memWrite _ _ _ (by simpa using h)

/-- P through a byte and back: every flag returns (10_state.md R24). -/
theorem ofByte_toByte (p : Status) : Status.ofByte p.toByte = p := by
  obtain ⟨n, v, b, d, i, z, c⟩ := p
  revert n v b d i z c
  decide

/-- Bit 5 of P reads 1 whatever the flags (10_state.md R25). -/
theorem toByte_bit5 (p : Status) : p.toByte.getLsbD 5 = true := by
  obtain ⟨n, v, b, d, i, z, c⟩ := p
  revert n v b d i z c
  decide

/-- PHP's byte has B and bit 5 set whatever the stored B (49_transfer_stack_nop.md R238). -/
theorem toByte_or_break (p : Status) : p.toByte ||| 0x10 = ({ p with b := true } : Status).toByte := by
  obtain ⟨n, v, b, d, i, z, c⟩ := p
  revert n v b d i z c
  decide

end Sys2Proof.Laws
end

