-- ==== Sys2Proof/Laws/Commute.lean ====
section
/-! SUPPORT. The operations below instruction level do not read P: each commutes with a write of P. -/

namespace Sys2Proof.Laws

open Sys2Proof.Machine

theorem setP_setP (p q : Status) (s : State) : setP p (setP q s) = setP p s := rfl

theorem setP_self (s : State) : setP s.p s = s := rfl

theorem dummyRead_setP (a : Addr) (p : Status) (s : State) : dummyRead a (setP p s) = setP p (dummyRead a s) := rfl

theorem dummyWrite_setP (a : Addr) (p : Status) (s : State) : dummyWrite a (setP p s) = setP p (dummyWrite a s) := rfl

theorem memRead_setP (a : Addr) (p : Status) (s : State) :
    memRead a (setP p s) = ((memRead a s).1, setP p (memRead a s).2) := rfl

theorem fetchCycle_setP (p : Status) (s : State) : fetchCycle (setP p s) = setP p (fetchCycle s) := rfl

theorem setPc_setP (a : Addr) (p : Status) (s : State) : setPc a (setP p s) = setP p (setPc a s) := rfl

theorem setSp_setP (v : Byte) (p : Status) (s : State) : setSp v (setP p s) = setP p (setSp v s) := rfl

theorem setA_setP (v : Byte) (p : Status) (s : State) : setA v (setP p s) = setP p (setA v s) := rfl

theorem setX_setP (v : Byte) (p : Status) (s : State) : setX v (setP p s) = setP p (setX v s) := rfl

theorem setY_setP (v : Byte) (p : Status) (s : State) : setY v (setP p s) = setP p (setY v s) := rfl

theorem dummyReadCycles_setP (l : List Addr) (p : Status) (s : State) (n : Nat) :
    dummyReadCycles (setP p s) n l = dummyReadCycles s n l := by
  induction l generalizing n with
  | nil => rfl
  | cons a rest ih => simp only [dummyReadCycles, ih, busValue_setP]

theorem openReads_setP (l : List Addr) (p : Status) (s : State) : openReads l (setP p s) = setP p (openReads l s) := by
  simp only [openReads, dummyReadCycles_setP, setP_clock, setP_cycles]
  rfl

theorem memWrite_setP (a : Addr) (v : Byte) (p : Status) (s : State) :
    memWrite a v (setP p s) = setP p (memWrite a v s) := by
  simp only [memWrite, setP_board]
  split <;> rfl

theorem push_setP (v : Byte) (p : Status) (s : State) : push v (setP p s) = setP p (push v s) := by
  simp only [push, setP_sp, memWrite_setP, setSp_setP]

theorem pull_setP (p : Status) (s : State) : pull (setP p s) = ((pull s).1, setP p (pull s).2) := rfl

theorem loadVector_setP (k : InterruptKind) (p : Status) (s : State) :
    loadVector k (setP p s) = setP p (loadVector k s) := rfl

theorem interruptLead_setP (k : InterruptKind) (p : Status) (s : State) :
    interruptLead k (setP p s) = setP p (interruptLead k s) := by
  cases k <;> rfl

theorem resolve_setP (m : MemOperand) (p : Status) (s : State) :
    resolve m (setP p s) = ((resolve m s).1, setP p (resolve m s).2) := by
  cases m <;> first | rfl | (simp only [resolve]; split <;> split <;> first | rfl | simp_all)

theorem readOperand_setP (o : ReadOperand) (p : Status) (s : State) :
    readOperand o (setP p s) = ((readOperand o s).1, setP p (readOperand o s).2) := by
  cases o
  · rfl
  · simp only [readOperand, resolve_setP, memRead_setP]

end Sys2Proof.Laws
end

