-- ==== Sys2Proof/Laws/PerInstr.lean ====
section
/-! SUPPORT. Facts about every instruction as syntax, one lemma for each constructor. -/

namespace Sys2Proof.Laws.EncodedForm

/-- Clocks of an instruction by its mode, when it uses its operand in one access, with what may be added
(40_addressing_modes.md, the cycle tables without "(Mem)"). -/
def accessClocks : Mode → Nat × ExtraClocks
  | .implied | .accumulator | .immediate => (2, .never)
  | .zeroPage => (3, .never)
  | .zeroPageX | .zeroPageY | .absolute => (4, .never)
  | .absoluteX | .absoluteY => (4, .pageCross)
  | .indirectX => (6, .never)
  | .indirectY => (5, .pageCross)
  | .indirect => (5, .never)
  | .relative => (2, .branch)

/-- Clocks of an instruction by mnemonic and mode, as the cycle tables count them (40_addressing_modes.md,
45_jump_interrupt.md, 60_exceptions.md R255). -/
def tableClocks (i : Instr) : Nat × ExtraClocks :=
  match i.mnemonic with
  | .ASL | .LSR | .ROL | .ROR | .INC | .DEC =>
    if i.mode = .accumulator then (2, .never) else ((accessClocks i.mode).1 + 2, (accessClocks i.mode).2)
  | .PHA | .PHP => (3, .never)
  | .PLA | .PLP => (4, .never)
  | .JMP => if i.mode = .absolute then (3, .never) else (5, .never)
  | .JSR | .RTS | .RTI => (6, .never)
  | .BRK => (7, .never)
  | _ => accessClocks i.mode

/-- The instruction is a documented form, its encoding has the length of its mode, and its CLK column agrees with the
cycle tables (30_encoding.md R91, R94, R96). -/
def Statement (i : Instr) : Prop :=
  i.wf = true ∧ (encode i).length = i.length ∧ (i.clocks, i.extraClocks) = tableClocks i

theorem adcImm (data : Byte) : Statement (.adcImm data) := ⟨rfl, rfl, rfl⟩
theorem adcZp (lo : Byte) : Statement (.adcZp lo) := ⟨rfl, rfl, rfl⟩
theorem adcZpX (lo : Byte) : Statement (.adcZpX lo) := ⟨rfl, rfl, rfl⟩
theorem adcAbs (lo hi : Byte) : Statement (.adcAbs lo hi) := ⟨rfl, rfl, rfl⟩
theorem adcAbsX (lo hi : Byte) : Statement (.adcAbsX lo hi) := ⟨rfl, rfl, rfl⟩
theorem adcAbsY (lo hi : Byte) : Statement (.adcAbsY lo hi) := ⟨rfl, rfl, rfl⟩
theorem adcIndX (lo : Byte) : Statement (.adcIndX lo) := ⟨rfl, rfl, rfl⟩
theorem adcIndY (lo : Byte) : Statement (.adcIndY lo) := ⟨rfl, rfl, rfl⟩
theorem sbcImm (data : Byte) : Statement (.sbcImm data) := ⟨rfl, rfl, rfl⟩
theorem sbcZp (lo : Byte) : Statement (.sbcZp lo) := ⟨rfl, rfl, rfl⟩
theorem sbcZpX (lo : Byte) : Statement (.sbcZpX lo) := ⟨rfl, rfl, rfl⟩
theorem sbcAbs (lo hi : Byte) : Statement (.sbcAbs lo hi) := ⟨rfl, rfl, rfl⟩
theorem sbcAbsX (lo hi : Byte) : Statement (.sbcAbsX lo hi) := ⟨rfl, rfl, rfl⟩
theorem sbcAbsY (lo hi : Byte) : Statement (.sbcAbsY lo hi) := ⟨rfl, rfl, rfl⟩
theorem sbcIndX (lo : Byte) : Statement (.sbcIndX lo) := ⟨rfl, rfl, rfl⟩
theorem sbcIndY (lo : Byte) : Statement (.sbcIndY lo) := ⟨rfl, rfl, rfl⟩
theorem andImm (data : Byte) : Statement (.andImm data) := ⟨rfl, rfl, rfl⟩
theorem andZp (lo : Byte) : Statement (.andZp lo) := ⟨rfl, rfl, rfl⟩
theorem andZpX (lo : Byte) : Statement (.andZpX lo) := ⟨rfl, rfl, rfl⟩
theorem andAbs (lo hi : Byte) : Statement (.andAbs lo hi) := ⟨rfl, rfl, rfl⟩
theorem andAbsX (lo hi : Byte) : Statement (.andAbsX lo hi) := ⟨rfl, rfl, rfl⟩
theorem andAbsY (lo hi : Byte) : Statement (.andAbsY lo hi) := ⟨rfl, rfl, rfl⟩
theorem andIndX (lo : Byte) : Statement (.andIndX lo) := ⟨rfl, rfl, rfl⟩
theorem andIndY (lo : Byte) : Statement (.andIndY lo) := ⟨rfl, rfl, rfl⟩
theorem oraImm (data : Byte) : Statement (.oraImm data) := ⟨rfl, rfl, rfl⟩
theorem oraZp (lo : Byte) : Statement (.oraZp lo) := ⟨rfl, rfl, rfl⟩
theorem oraZpX (lo : Byte) : Statement (.oraZpX lo) := ⟨rfl, rfl, rfl⟩
theorem oraAbs (lo hi : Byte) : Statement (.oraAbs lo hi) := ⟨rfl, rfl, rfl⟩
theorem oraAbsX (lo hi : Byte) : Statement (.oraAbsX lo hi) := ⟨rfl, rfl, rfl⟩
theorem oraAbsY (lo hi : Byte) : Statement (.oraAbsY lo hi) := ⟨rfl, rfl, rfl⟩
theorem oraIndX (lo : Byte) : Statement (.oraIndX lo) := ⟨rfl, rfl, rfl⟩
theorem oraIndY (lo : Byte) : Statement (.oraIndY lo) := ⟨rfl, rfl, rfl⟩
theorem eorImm (data : Byte) : Statement (.eorImm data) := ⟨rfl, rfl, rfl⟩
theorem eorZp (lo : Byte) : Statement (.eorZp lo) := ⟨rfl, rfl, rfl⟩
theorem eorZpX (lo : Byte) : Statement (.eorZpX lo) := ⟨rfl, rfl, rfl⟩
theorem eorAbs (lo hi : Byte) : Statement (.eorAbs lo hi) := ⟨rfl, rfl, rfl⟩
theorem eorAbsX (lo hi : Byte) : Statement (.eorAbsX lo hi) := ⟨rfl, rfl, rfl⟩
theorem eorAbsY (lo hi : Byte) : Statement (.eorAbsY lo hi) := ⟨rfl, rfl, rfl⟩
theorem eorIndX (lo : Byte) : Statement (.eorIndX lo) := ⟨rfl, rfl, rfl⟩
theorem eorIndY (lo : Byte) : Statement (.eorIndY lo) := ⟨rfl, rfl, rfl⟩
theorem aslA : Statement (.aslA) := ⟨rfl, rfl, rfl⟩
theorem aslZp (lo : Byte) : Statement (.aslZp lo) := ⟨rfl, rfl, rfl⟩
theorem aslZpX (lo : Byte) : Statement (.aslZpX lo) := ⟨rfl, rfl, rfl⟩
theorem aslAbs (lo hi : Byte) : Statement (.aslAbs lo hi) := ⟨rfl, rfl, rfl⟩
theorem aslAbsX (lo hi : Byte) : Statement (.aslAbsX lo hi) := ⟨rfl, rfl, rfl⟩
theorem lsrA : Statement (.lsrA) := ⟨rfl, rfl, rfl⟩
theorem lsrZp (lo : Byte) : Statement (.lsrZp lo) := ⟨rfl, rfl, rfl⟩
theorem lsrZpX (lo : Byte) : Statement (.lsrZpX lo) := ⟨rfl, rfl, rfl⟩
theorem lsrAbs (lo hi : Byte) : Statement (.lsrAbs lo hi) := ⟨rfl, rfl, rfl⟩
theorem lsrAbsX (lo hi : Byte) : Statement (.lsrAbsX lo hi) := ⟨rfl, rfl, rfl⟩
theorem rolA : Statement (.rolA) := ⟨rfl, rfl, rfl⟩
theorem rolZp (lo : Byte) : Statement (.rolZp lo) := ⟨rfl, rfl, rfl⟩
theorem rolZpX (lo : Byte) : Statement (.rolZpX lo) := ⟨rfl, rfl, rfl⟩
theorem rolAbs (lo hi : Byte) : Statement (.rolAbs lo hi) := ⟨rfl, rfl, rfl⟩
theorem rolAbsX (lo hi : Byte) : Statement (.rolAbsX lo hi) := ⟨rfl, rfl, rfl⟩
theorem rorA : Statement (.rorA) := ⟨rfl, rfl, rfl⟩
theorem rorZp (lo : Byte) : Statement (.rorZp lo) := ⟨rfl, rfl, rfl⟩
theorem rorZpX (lo : Byte) : Statement (.rorZpX lo) := ⟨rfl, rfl, rfl⟩
theorem rorAbs (lo hi : Byte) : Statement (.rorAbs lo hi) := ⟨rfl, rfl, rfl⟩
theorem rorAbsX (lo hi : Byte) : Statement (.rorAbsX lo hi) := ⟨rfl, rfl, rfl⟩
theorem bcc (off : Byte) : Statement (.bcc off) := ⟨rfl, rfl, rfl⟩
theorem bcs (off : Byte) : Statement (.bcs off) := ⟨rfl, rfl, rfl⟩
theorem beq (off : Byte) : Statement (.beq off) := ⟨rfl, rfl, rfl⟩
theorem bne (off : Byte) : Statement (.bne off) := ⟨rfl, rfl, rfl⟩
theorem bvc (off : Byte) : Statement (.bvc off) := ⟨rfl, rfl, rfl⟩
theorem bvs (off : Byte) : Statement (.bvs off) := ⟨rfl, rfl, rfl⟩
theorem bpl (off : Byte) : Statement (.bpl off) := ⟨rfl, rfl, rfl⟩
theorem bmi (off : Byte) : Statement (.bmi off) := ⟨rfl, rfl, rfl⟩
theorem bitZp (lo : Byte) : Statement (.bitZp lo) := ⟨rfl, rfl, rfl⟩
theorem bitAbs (lo hi : Byte) : Statement (.bitAbs lo hi) := ⟨rfl, rfl, rfl⟩
theorem jmpAbs (lo hi : Byte) : Statement (.jmpAbs lo hi) := ⟨rfl, rfl, rfl⟩
theorem jmpInd (lo hi : Byte) : Statement (.jmpInd lo hi) := ⟨rfl, rfl, rfl⟩
theorem jsr (lo hi : Byte) : Statement (.jsr lo hi) := ⟨rfl, rfl, rfl⟩
theorem rts : Statement (.rts) := ⟨rfl, rfl, rfl⟩
theorem brk : Statement (.brk) := ⟨rfl, rfl, rfl⟩
theorem rti : Statement (.rti) := ⟨rfl, rfl, rfl⟩
theorem cmpImm (data : Byte) : Statement (.cmpImm data) := ⟨rfl, rfl, rfl⟩
theorem cmpZp (lo : Byte) : Statement (.cmpZp lo) := ⟨rfl, rfl, rfl⟩
theorem cmpZpX (lo : Byte) : Statement (.cmpZpX lo) := ⟨rfl, rfl, rfl⟩
theorem cmpAbs (lo hi : Byte) : Statement (.cmpAbs lo hi) := ⟨rfl, rfl, rfl⟩
theorem cmpAbsX (lo hi : Byte) : Statement (.cmpAbsX lo hi) := ⟨rfl, rfl, rfl⟩
theorem cmpAbsY (lo hi : Byte) : Statement (.cmpAbsY lo hi) := ⟨rfl, rfl, rfl⟩
theorem cmpIndX (lo : Byte) : Statement (.cmpIndX lo) := ⟨rfl, rfl, rfl⟩
theorem cmpIndY (lo : Byte) : Statement (.cmpIndY lo) := ⟨rfl, rfl, rfl⟩
theorem cpxImm (data : Byte) : Statement (.cpxImm data) := ⟨rfl, rfl, rfl⟩
theorem cpxZp (lo : Byte) : Statement (.cpxZp lo) := ⟨rfl, rfl, rfl⟩
theorem cpxAbs (lo hi : Byte) : Statement (.cpxAbs lo hi) := ⟨rfl, rfl, rfl⟩
theorem cpyImm (data : Byte) : Statement (.cpyImm data) := ⟨rfl, rfl, rfl⟩
theorem cpyZp (lo : Byte) : Statement (.cpyZp lo) := ⟨rfl, rfl, rfl⟩
theorem cpyAbs (lo hi : Byte) : Statement (.cpyAbs lo hi) := ⟨rfl, rfl, rfl⟩
theorem incZp (lo : Byte) : Statement (.incZp lo) := ⟨rfl, rfl, rfl⟩
theorem incZpX (lo : Byte) : Statement (.incZpX lo) := ⟨rfl, rfl, rfl⟩
theorem incAbs (lo hi : Byte) : Statement (.incAbs lo hi) := ⟨rfl, rfl, rfl⟩
theorem incAbsX (lo hi : Byte) : Statement (.incAbsX lo hi) := ⟨rfl, rfl, rfl⟩
theorem decZp (lo : Byte) : Statement (.decZp lo) := ⟨rfl, rfl, rfl⟩
theorem decZpX (lo : Byte) : Statement (.decZpX lo) := ⟨rfl, rfl, rfl⟩
theorem decAbs (lo hi : Byte) : Statement (.decAbs lo hi) := ⟨rfl, rfl, rfl⟩
theorem decAbsX (lo hi : Byte) : Statement (.decAbsX lo hi) := ⟨rfl, rfl, rfl⟩
theorem inx : Statement (.inx) := ⟨rfl, rfl, rfl⟩
theorem dex : Statement (.dex) := ⟨rfl, rfl, rfl⟩
theorem iny : Statement (.iny) := ⟨rfl, rfl, rfl⟩
theorem dey : Statement (.dey) := ⟨rfl, rfl, rfl⟩
theorem clc : Statement (.clc) := ⟨rfl, rfl, rfl⟩
theorem sec : Statement (.sec) := ⟨rfl, rfl, rfl⟩
theorem cli : Statement (.cli) := ⟨rfl, rfl, rfl⟩
theorem sei : Statement (.sei) := ⟨rfl, rfl, rfl⟩
theorem cld : Statement (.cld) := ⟨rfl, rfl, rfl⟩
theorem sed : Statement (.sed) := ⟨rfl, rfl, rfl⟩
theorem clv : Statement (.clv) := ⟨rfl, rfl, rfl⟩
theorem ldaImm (data : Byte) : Statement (.ldaImm data) := ⟨rfl, rfl, rfl⟩
theorem ldaZp (lo : Byte) : Statement (.ldaZp lo) := ⟨rfl, rfl, rfl⟩
theorem ldaZpX (lo : Byte) : Statement (.ldaZpX lo) := ⟨rfl, rfl, rfl⟩
theorem ldaAbs (lo hi : Byte) : Statement (.ldaAbs lo hi) := ⟨rfl, rfl, rfl⟩
theorem ldaAbsX (lo hi : Byte) : Statement (.ldaAbsX lo hi) := ⟨rfl, rfl, rfl⟩
theorem ldaAbsY (lo hi : Byte) : Statement (.ldaAbsY lo hi) := ⟨rfl, rfl, rfl⟩
theorem ldaIndX (lo : Byte) : Statement (.ldaIndX lo) := ⟨rfl, rfl, rfl⟩
theorem ldaIndY (lo : Byte) : Statement (.ldaIndY lo) := ⟨rfl, rfl, rfl⟩
theorem ldxImm (data : Byte) : Statement (.ldxImm data) := ⟨rfl, rfl, rfl⟩
theorem ldxZp (lo : Byte) : Statement (.ldxZp lo) := ⟨rfl, rfl, rfl⟩
theorem ldxZpY (lo : Byte) : Statement (.ldxZpY lo) := ⟨rfl, rfl, rfl⟩
theorem ldxAbs (lo hi : Byte) : Statement (.ldxAbs lo hi) := ⟨rfl, rfl, rfl⟩
theorem ldxAbsY (lo hi : Byte) : Statement (.ldxAbsY lo hi) := ⟨rfl, rfl, rfl⟩
theorem ldyImm (data : Byte) : Statement (.ldyImm data) := ⟨rfl, rfl, rfl⟩
theorem ldyZp (lo : Byte) : Statement (.ldyZp lo) := ⟨rfl, rfl, rfl⟩
theorem ldyZpX (lo : Byte) : Statement (.ldyZpX lo) := ⟨rfl, rfl, rfl⟩
theorem ldyAbs (lo hi : Byte) : Statement (.ldyAbs lo hi) := ⟨rfl, rfl, rfl⟩
theorem ldyAbsX (lo hi : Byte) : Statement (.ldyAbsX lo hi) := ⟨rfl, rfl, rfl⟩
theorem staZp (lo : Byte) : Statement (.staZp lo) := ⟨rfl, rfl, rfl⟩
theorem staZpX (lo : Byte) : Statement (.staZpX lo) := ⟨rfl, rfl, rfl⟩
theorem staAbs (lo hi : Byte) : Statement (.staAbs lo hi) := ⟨rfl, rfl, rfl⟩
theorem staAbsX (lo hi : Byte) : Statement (.staAbsX lo hi) := ⟨rfl, rfl, rfl⟩
theorem staAbsY (lo hi : Byte) : Statement (.staAbsY lo hi) := ⟨rfl, rfl, rfl⟩
theorem staIndX (lo : Byte) : Statement (.staIndX lo) := ⟨rfl, rfl, rfl⟩
theorem staIndY (lo : Byte) : Statement (.staIndY lo) := ⟨rfl, rfl, rfl⟩
theorem stxZp (lo : Byte) : Statement (.stxZp lo) := ⟨rfl, rfl, rfl⟩
theorem stxZpY (lo : Byte) : Statement (.stxZpY lo) := ⟨rfl, rfl, rfl⟩
theorem stxAbs (lo hi : Byte) : Statement (.stxAbs lo hi) := ⟨rfl, rfl, rfl⟩
theorem styZp (lo : Byte) : Statement (.styZp lo) := ⟨rfl, rfl, rfl⟩
theorem styZpX (lo : Byte) : Statement (.styZpX lo) := ⟨rfl, rfl, rfl⟩
theorem styAbs (lo hi : Byte) : Statement (.styAbs lo hi) := ⟨rfl, rfl, rfl⟩
theorem tax : Statement (.tax) := ⟨rfl, rfl, rfl⟩
theorem txa : Statement (.txa) := ⟨rfl, rfl, rfl⟩
theorem tay : Statement (.tay) := ⟨rfl, rfl, rfl⟩
theorem tya : Statement (.tya) := ⟨rfl, rfl, rfl⟩
theorem txs : Statement (.txs) := ⟨rfl, rfl, rfl⟩
theorem tsx : Statement (.tsx) := ⟨rfl, rfl, rfl⟩
theorem pha : Statement (.pha) := ⟨rfl, rfl, rfl⟩
theorem pla : Statement (.pla) := ⟨rfl, rfl, rfl⟩
theorem php : Statement (.php) := ⟨rfl, rfl, rfl⟩
theorem plp : Statement (.plp) := ⟨rfl, rfl, rfl⟩
theorem nop : Statement (.nop) := ⟨rfl, rfl, rfl⟩

end Sys2Proof.Laws.EncodedForm
end

