-- ==== Sys2Proof/Laws/Run.lean ====
section
/-! SUPPORT. A run of the host's core, one step at a time. -/

namespace Sys2Proof.Laws

open Sys2Proof.Machine

theorem run_next (n : Nat) (s t : State) (h : step s = .next t) :
    Sys2Proof.core.run (n + 1) s = Sys2Proof.core.run n t := by
  have h' : Sys2Proof.core.step s = .next t := h
  show Host.Core.run Sys2Proof.core (n + 1) s = _
  simp [Host.Core.run, h']

theorem run_fault (n : Nat) (s : State) (r : Fault) (h : step s = .fault r) :
    Sys2Proof.core.run (n + 1) s = .fault r := by
  have h' : Sys2Proof.core.step s = .fault r := h
  simp [Host.Core.run, h']

theorem run_refused (n : Nat) (s : State) (r : Refusal) (h : step s = .refused r) :
    Sys2Proof.core.run (n + 1) s = .refused r := by
  have h' : Sys2Proof.core.step s = .refused r := h
  simp [Host.Core.run, h']

end Sys2Proof.Laws
end

