-- ==== Sys2Proof/Laws/Shapes.lean ====
section
/-! SUPPORT. What an instruction can do, said once for all 151: seven shapes, so that a proof over all instructions splits
seven ways and into the nine instructions of the last shape, not 151 ways. -/

namespace Sys2Proof.Laws

open Sys2Proof.Machine

/-- Nothing but A, X, Y, S and P differs. -/
def RegsAndFlags (s t : State) : Prop :=
  t.pc = s.pc ∧ t.mem = s.mem ∧ t.board = s.board ∧ t.resetReq = s.resetReq ∧ t.nmiPending = s.nmiPending ∧
    t.irqLine = s.irqLine ∧ t.afterBrk = s.afterBrk ∧ t.env = s.env ∧ t.clock = s.clock ∧ t.cycles = s.cycles

/-- The instructions that have a shape of their own. -/
def ownShape : List Mnemonic := [.PHA, .PHP, .PLA, .PLP, .JMP, .JSR, .RTS, .RTI, .BRK]

/-- How `t` comes from `s` by the instruction `i`. -/
inductive Shape (i : Instr) (s t : State) : Prop where
  /-- It reads a datum and changes registers and flags. -/
  | read (o : ReadOperand) (act : Byte → State → State) (ho : i.readOperand? = some o)
      (ha : ∀ v u, RegsAndFlags u (act v u)) (ht : t = withRead o act s)
  /-- It stores a register. -/
  | store (m : MemOperand) (reg : State → Byte) (hm : i.memOperand? = some m) (ht : t = withWrite m reg s)
  /-- It modifies a byte of memory. -/
  | modify (m : MemOperand) (f : Byte → Status → Byte × Status) (hm : i.memOperand? = some m)
      (ht : t = withModify m f s)
  /-- It changes registers and flags in two clocks. -/
  | implied (act : State → State) (ha : ∀ u, RegsAndFlags u (act u)) (ht : t = withImplied act s)
  /-- It branches. -/
  | branch (cond : Status → Bool) (off : Byte) (ho : i.operands = [off]) (ht : t = withBranch cond off s)
  /-- It is one of the nine others. -/
  | own (hi : i.mnemonic ∈ ownShape)

theorem regsAndFlags_refl (s : State) : RegsAndFlags s s := ⟨rfl, rfl, rfl, rfl, rfl, rfl, rfl, rfl, rfl, rfl⟩

/-- Every instruction has one of the shapes. -/
theorem exec_shape (i : Instr) (s t : State) (h : exec i s = .next t) : Shape i s t := by
  cases i <;> cases h <;>
    first
      | (refine .read (.immediate _) _ rfl ?_ (by with_reducible rfl); exact fun _ u => regsAndFlags_refl u)
      | (refine .read (.memory _) _ rfl ?_ (by with_reducible rfl); exact fun _ u => regsAndFlags_refl u)
      | exact .store _ _ rfl (by with_reducible rfl)
      | exact .modify _ _ rfl (by with_reducible rfl)
      | exact .branch _ _ rfl (by with_reducible rfl)
      | (refine .implied _ ?_ (by with_reducible rfl); exact fun u => regsAndFlags_refl u)
      | (refine .implied _ ?_ (by unfold withAccumulator; with_reducible rfl); exact fun u => regsAndFlags_refl u)
      | exact .own (by simp [Instr.mnemonic, ownShape])

end Sys2Proof.Laws
end

