-- ==== Sys2Proof/Tests/Slice0.lean ====
section
/-! SUPPORT. Tests. The expected results are those of 95_test_vectors.md, of the worked examples in the rules, and of the
opcode table; the witnesses show that the hypotheses of each obligation can be met, clause by clause. -/

namespace Sys2Proof.Tests

open Sys2Proof.Machine Sys2Proof.Spec

/-! ### Ill-formed instructions are refused (WellFormed.lean) -/

/-- STA has no Immediate form (30_encoding.md R94). -/
theorem test_wf_refuses_missing_mode : RawInstr.wf ⟨.STA, .immediate, [0x44]⟩ = false ∧
    RawInstr.modeExists ⟨.STA, .immediate, [0x44]⟩ = false ∧ RawInstr.lengthOk ⟨.STA, .immediate, [0x44]⟩ = true := by
  decide

/-- An Immediate operand is one byte (30_encoding.md R91). -/
theorem test_wf_refuses_wrong_length : RawInstr.wf ⟨.ADC, .immediate, [0x44, 0x00]⟩ = false ∧
    RawInstr.modeExists ⟨.ADC, .immediate, [0x44, 0x00]⟩ = true ∧
    RawInstr.lengthOk ⟨.ADC, .immediate, [0x44, 0x00]⟩ = false := by decide

/-- STX has no form indexed by X (48_load_store.md R224). -/
theorem test_wf_refuses_stx_zero_page_x : RawInstr.wf ⟨.STX, .zeroPageX, [0x44]⟩ = false := by decide

/-- A documented form is accepted. -/
theorem test_wf_accepts_documented : RawInstr.wf ⟨.LDX, .zeroPageY, [0x44]⟩ = true := by decide

/-! ### Decoding, from bytes written out from 30_encoding.md R96 -/

/-- One instruction of every family, its opcode byte bit by bit; address bytes low first (30_encoding.md R92). -/
theorem test_decode_bit_by_bit :
    decode [0b01101001, 0b01000100] = .ok (.adcImm 0x44, []) ∧
    decode [0b00111101, 0b00000000, 0b01000100] = .ok (.andAbsX 0x00 0x44, []) ∧
    decode [0b00001010] = .ok (.aslA, []) ∧
    decode [0b11110000, 0b11111100] = .ok (.beq 0xFC, []) ∧
    decode [0b00101100, 0b00000010, 0b00100000] = .ok (.bitAbs 0x02 0x20, []) ∧
    decode [0b01101100, 0b11111111, 0b00000011] = .ok (.jmpInd 0xFF 0x03, []) ∧
    decode [0b11100000, 0b01000100] = .ok (.cpxImm 0x44, []) ∧
    decode [0b11110110, 0b01000100] = .ok (.incZpX 0x44, []) ∧
    decode [0b10111000] = .ok (.clv, []) ∧
    decode [0b10010001, 0b00010000] = .ok (.staIndY 0x10, []) ∧
    decode [0b10011010] = .ok (.txs, []) := ⟨rfl, rfl, rfl, rfl, rfl, rfl, rfl, rfl, rfl, rfl, rfl⟩

/-- The host's numbering: the opcode is bits 7 to 0, operand bytes above a row's bits are 0. -/
theorem test_decode_table_word : decodeTableWord 24 0x55976C = some (.jmpInd 0x97 0x55) ∧
    decodeTableWord 8 0x6C = some (.jmpInd 0x00 0x00) ∧ decodeTableWord 8 0x02 = none := ⟨rfl, rfl, rfl⟩

/-- Undocumented bytes and short input are refused (30_encoding.md R90, R97). -/
theorem test_decode_refuses : (decode [0x02, 0x00, 0x00]).isOk = false ∧ (decode [0xFF, 0x00, 0x00]).isOk = false ∧
    (decode [0xAD, 0x00]).isOk = false ∧ (decode []).isOk = false := ⟨rfl, rfl, rfl, rfl⟩

theorem test_decode_adc_sbc :
    decode [0x69, 0x44] = .ok (.adcImm 0x44, []) ∧ decode [0x65, 0x34] = .ok (.adcZp 0x34, []) ∧
    decode [0x75, 0x34] = .ok (.adcZpX 0x34, []) ∧ decode [0x6D, 0x34, 0x12] = .ok (.adcAbs 0x34 0x12, []) ∧
    decode [0x7D, 0x34, 0x12] = .ok (.adcAbsX 0x34 0x12, []) ∧
    decode [0x79, 0x34, 0x12] = .ok (.adcAbsY 0x34 0x12, []) ∧ decode [0x61, 0x34] = .ok (.adcIndX 0x34, []) ∧
    decode [0x71, 0x34] = .ok (.adcIndY 0x34, []) ∧ decode [0xE9, 0x44] = .ok (.sbcImm 0x44, []) ∧
    decode [0xE5, 0x34] = .ok (.sbcZp 0x34, []) ∧ decode [0xF5, 0x34] = .ok (.sbcZpX 0x34, []) ∧
    decode [0xED, 0x34, 0x12] = .ok (.sbcAbs 0x34 0x12, []) ∧
    decode [0xFD, 0x34, 0x12] = .ok (.sbcAbsX 0x34 0x12, []) ∧
    decode [0xF9, 0x34, 0x12] = .ok (.sbcAbsY 0x34 0x12, []) ∧ decode [0xE1, 0x34] = .ok (.sbcIndX 0x34, []) ∧
    decode [0xF1, 0x34] = .ok (.sbcIndY 0x34, []) :=
  ⟨rfl, rfl, rfl, rfl, rfl, rfl, rfl, rfl, rfl, rfl, rfl, rfl, rfl, rfl, rfl, rfl⟩

theorem test_decode_and_ora_eor :
    decode [0x29, 0x44] = .ok (.andImm 0x44, []) ∧ decode [0x25, 0x34] = .ok (.andZp 0x34, []) ∧
    decode [0x35, 0x34] = .ok (.andZpX 0x34, []) ∧ decode [0x2D, 0x34, 0x12] = .ok (.andAbs 0x34 0x12, []) ∧
    decode [0x3D, 0x34, 0x12] = .ok (.andAbsX 0x34 0x12, []) ∧
    decode [0x39, 0x34, 0x12] = .ok (.andAbsY 0x34 0x12, []) ∧ decode [0x21, 0x34] = .ok (.andIndX 0x34, []) ∧
    decode [0x31, 0x34] = .ok (.andIndY 0x34, []) ∧ decode [0x09, 0x44] = .ok (.oraImm 0x44, []) ∧
    decode [0x05, 0x34] = .ok (.oraZp 0x34, []) ∧ decode [0x15, 0x34] = .ok (.oraZpX 0x34, []) ∧
    decode [0x0D, 0x34, 0x12] = .ok (.oraAbs 0x34 0x12, []) ∧
    decode [0x1D, 0x34, 0x12] = .ok (.oraAbsX 0x34 0x12, []) ∧
    decode [0x19, 0x34, 0x12] = .ok (.oraAbsY 0x34 0x12, []) ∧ decode [0x01, 0x34] = .ok (.oraIndX 0x34, []) ∧
    decode [0x11, 0x34] = .ok (.oraIndY 0x34, []) ∧ decode [0x49, 0x44] = .ok (.eorImm 0x44, []) ∧
    decode [0x45, 0x34] = .ok (.eorZp 0x34, []) ∧ decode [0x55, 0x34] = .ok (.eorZpX 0x34, []) ∧
    decode [0x4D, 0x34, 0x12] = .ok (.eorAbs 0x34 0x12, []) ∧
    decode [0x5D, 0x34, 0x12] = .ok (.eorAbsX 0x34 0x12, []) ∧
    decode [0x59, 0x34, 0x12] = .ok (.eorAbsY 0x34 0x12, []) ∧ decode [0x41, 0x34] = .ok (.eorIndX 0x34, []) ∧
    decode [0x51, 0x34] = .ok (.eorIndY 0x34, []) :=
  ⟨rfl, rfl, rfl, rfl, rfl, rfl, rfl, rfl, rfl, rfl, rfl, rfl, rfl, rfl, rfl, rfl, rfl, rfl, rfl, rfl, rfl,
   rfl, rfl, rfl⟩

theorem test_decode_asl_lsr_rol_ror :
    decode [0x0A] = .ok (.aslA, []) ∧ decode [0x06, 0x34] = .ok (.aslZp 0x34, []) ∧
    decode [0x16, 0x34] = .ok (.aslZpX 0x34, []) ∧ decode [0x0E, 0x34, 0x12] = .ok (.aslAbs 0x34 0x12, []) ∧
    decode [0x1E, 0x34, 0x12] = .ok (.aslAbsX 0x34 0x12, []) ∧ decode [0x4A] = .ok (.lsrA, []) ∧
    decode [0x46, 0x34] = .ok (.lsrZp 0x34, []) ∧ decode [0x56, 0x34] = .ok (.lsrZpX 0x34, []) ∧
    decode [0x4E, 0x34, 0x12] = .ok (.lsrAbs 0x34 0x12, []) ∧
    decode [0x5E, 0x34, 0x12] = .ok (.lsrAbsX 0x34 0x12, []) ∧ decode [0x2A] = .ok (.rolA, []) ∧
    decode [0x26, 0x34] = .ok (.rolZp 0x34, []) ∧ decode [0x36, 0x34] = .ok (.rolZpX 0x34, []) ∧
    decode [0x2E, 0x34, 0x12] = .ok (.rolAbs 0x34 0x12, []) ∧
    decode [0x3E, 0x34, 0x12] = .ok (.rolAbsX 0x34 0x12, []) ∧ decode [0x6A] = .ok (.rorA, []) ∧
    decode [0x66, 0x34] = .ok (.rorZp 0x34, []) ∧ decode [0x76, 0x34] = .ok (.rorZpX 0x34, []) ∧
    decode [0x6E, 0x34, 0x12] = .ok (.rorAbs 0x34 0x12, []) ∧
    decode [0x7E, 0x34, 0x12] = .ok (.rorAbsX 0x34 0x12, []) :=
  ⟨rfl, rfl, rfl, rfl, rfl, rfl, rfl, rfl, rfl, rfl, rfl, rfl, rfl, rfl, rfl, rfl, rfl, rfl, rfl, rfl⟩

theorem test_decode_bcc_to_bit :
    decode [0x90, 0xFC] = .ok (.bcc 0xFC, []) ∧ decode [0xB0, 0xFC] = .ok (.bcs 0xFC, []) ∧
    decode [0xF0, 0xFC] = .ok (.beq 0xFC, []) ∧ decode [0xD0, 0xFC] = .ok (.bne 0xFC, []) ∧
    decode [0x50, 0xFC] = .ok (.bvc 0xFC, []) ∧ decode [0x70, 0xFC] = .ok (.bvs 0xFC, []) ∧
    decode [0x10, 0xFC] = .ok (.bpl 0xFC, []) ∧ decode [0x30, 0xFC] = .ok (.bmi 0xFC, []) ∧
    decode [0x24, 0x34] = .ok (.bitZp 0x34, []) ∧ decode [0x2C, 0x34, 0x12] = .ok (.bitAbs 0x34 0x12, []) :=
  ⟨rfl, rfl, rfl, rfl, rfl, rfl, rfl, rfl, rfl, rfl⟩

theorem test_decode_jmp_jsr_rts_brk_rti :
    decode [0x4C, 0x34, 0x12] = .ok (.jmpAbs 0x34 0x12, []) ∧
    decode [0x6C, 0x34, 0x12] = .ok (.jmpInd 0x34 0x12, []) ∧ decode [0x20, 0x34, 0x12] = .ok (.jsr 0x34 0x12, []) ∧
    decode [0x60] = .ok (.rts, []) ∧ decode [0x00] = .ok (.brk, []) ∧ decode [0x40] = .ok (.rti, []) :=
  ⟨rfl, rfl, rfl, rfl, rfl, rfl⟩

theorem test_decode_cmp_cpx_cpy :
    decode [0xC9, 0x44] = .ok (.cmpImm 0x44, []) ∧ decode [0xC5, 0x34] = .ok (.cmpZp 0x34, []) ∧
    decode [0xD5, 0x34] = .ok (.cmpZpX 0x34, []) ∧ decode [0xCD, 0x34, 0x12] = .ok (.cmpAbs 0x34 0x12, []) ∧
    decode [0xDD, 0x34, 0x12] = .ok (.cmpAbsX 0x34 0x12, []) ∧
    decode [0xD9, 0x34, 0x12] = .ok (.cmpAbsY 0x34 0x12, []) ∧ decode [0xC1, 0x34] = .ok (.cmpIndX 0x34, []) ∧
    decode [0xD1, 0x34] = .ok (.cmpIndY 0x34, []) ∧ decode [0xE0, 0x44] = .ok (.cpxImm 0x44, []) ∧
    decode [0xE4, 0x34] = .ok (.cpxZp 0x34, []) ∧ decode [0xEC, 0x34, 0x12] = .ok (.cpxAbs 0x34 0x12, []) ∧
    decode [0xC0, 0x44] = .ok (.cpyImm 0x44, []) ∧ decode [0xC4, 0x34] = .ok (.cpyZp 0x34, []) ∧
    decode [0xCC, 0x34, 0x12] = .ok (.cpyAbs 0x34 0x12, []) :=
  ⟨rfl, rfl, rfl, rfl, rfl, rfl, rfl, rfl, rfl, rfl, rfl, rfl, rfl, rfl⟩

theorem test_decode_inc_to_dey :
    decode [0xE6, 0x34] = .ok (.incZp 0x34, []) ∧ decode [0xF6, 0x34] = .ok (.incZpX 0x34, []) ∧
    decode [0xEE, 0x34, 0x12] = .ok (.incAbs 0x34 0x12, []) ∧
    decode [0xFE, 0x34, 0x12] = .ok (.incAbsX 0x34 0x12, []) ∧ decode [0xC6, 0x34] = .ok (.decZp 0x34, []) ∧
    decode [0xD6, 0x34] = .ok (.decZpX 0x34, []) ∧ decode [0xCE, 0x34, 0x12] = .ok (.decAbs 0x34 0x12, []) ∧
    decode [0xDE, 0x34, 0x12] = .ok (.decAbsX 0x34 0x12, []) ∧ decode [0xE8] = .ok (.inx, []) ∧
    decode [0xCA] = .ok (.dex, []) ∧ decode [0xC8] = .ok (.iny, []) ∧ decode [0x88] = .ok (.dey, []) :=
  ⟨rfl, rfl, rfl, rfl, rfl, rfl, rfl, rfl, rfl, rfl, rfl, rfl⟩

theorem test_decode_clc_to_clv :
    decode [0x18] = .ok (.clc, []) ∧ decode [0x38] = .ok (.sec, []) ∧ decode [0x58] = .ok (.cli, []) ∧
    decode [0x78] = .ok (.sei, []) ∧ decode [0xD8] = .ok (.cld, []) ∧ decode [0xF8] = .ok (.sed, []) ∧
    decode [0xB8] = .ok (.clv, []) :=
  ⟨rfl, rfl, rfl, rfl, rfl, rfl, rfl⟩

theorem test_decode_lda_ldx_ldy :
    decode [0xA9, 0x44] = .ok (.ldaImm 0x44, []) ∧ decode [0xA5, 0x34] = .ok (.ldaZp 0x34, []) ∧
    decode [0xB5, 0x34] = .ok (.ldaZpX 0x34, []) ∧ decode [0xAD, 0x34, 0x12] = .ok (.ldaAbs 0x34 0x12, []) ∧
    decode [0xBD, 0x34, 0x12] = .ok (.ldaAbsX 0x34 0x12, []) ∧
    decode [0xB9, 0x34, 0x12] = .ok (.ldaAbsY 0x34 0x12, []) ∧ decode [0xA1, 0x34] = .ok (.ldaIndX 0x34, []) ∧
    decode [0xB1, 0x34] = .ok (.ldaIndY 0x34, []) ∧ decode [0xA2, 0x44] = .ok (.ldxImm 0x44, []) ∧
    decode [0xA6, 0x34] = .ok (.ldxZp 0x34, []) ∧ decode [0xB6, 0x34] = .ok (.ldxZpY 0x34, []) ∧
    decode [0xAE, 0x34, 0x12] = .ok (.ldxAbs 0x34 0x12, []) ∧
    decode [0xBE, 0x34, 0x12] = .ok (.ldxAbsY 0x34 0x12, []) ∧ decode [0xA0, 0x44] = .ok (.ldyImm 0x44, []) ∧
    decode [0xA4, 0x34] = .ok (.ldyZp 0x34, []) ∧ decode [0xB4, 0x34] = .ok (.ldyZpX 0x34, []) ∧
    decode [0xAC, 0x34, 0x12] = .ok (.ldyAbs 0x34 0x12, []) ∧
    decode [0xBC, 0x34, 0x12] = .ok (.ldyAbsX 0x34 0x12, []) :=
  ⟨rfl, rfl, rfl, rfl, rfl, rfl, rfl, rfl, rfl, rfl, rfl, rfl, rfl, rfl, rfl, rfl, rfl, rfl⟩

theorem test_decode_sta_stx_sty :
    decode [0x85, 0x34] = .ok (.staZp 0x34, []) ∧ decode [0x95, 0x34] = .ok (.staZpX 0x34, []) ∧
    decode [0x8D, 0x34, 0x12] = .ok (.staAbs 0x34 0x12, []) ∧
    decode [0x9D, 0x34, 0x12] = .ok (.staAbsX 0x34 0x12, []) ∧
    decode [0x99, 0x34, 0x12] = .ok (.staAbsY 0x34 0x12, []) ∧ decode [0x81, 0x34] = .ok (.staIndX 0x34, []) ∧
    decode [0x91, 0x34] = .ok (.staIndY 0x34, []) ∧ decode [0x86, 0x34] = .ok (.stxZp 0x34, []) ∧
    decode [0x96, 0x34] = .ok (.stxZpY 0x34, []) ∧ decode [0x8E, 0x34, 0x12] = .ok (.stxAbs 0x34 0x12, []) ∧
    decode [0x84, 0x34] = .ok (.styZp 0x34, []) ∧ decode [0x94, 0x34] = .ok (.styZpX 0x34, []) ∧
    decode [0x8C, 0x34, 0x12] = .ok (.styAbs 0x34 0x12, []) :=
  ⟨rfl, rfl, rfl, rfl, rfl, rfl, rfl, rfl, rfl, rfl, rfl, rfl, rfl⟩

theorem test_decode_tax_to_nop :
    decode [0xAA] = .ok (.tax, []) ∧ decode [0x8A] = .ok (.txa, []) ∧ decode [0xA8] = .ok (.tay, []) ∧
    decode [0x98] = .ok (.tya, []) ∧ decode [0x9A] = .ok (.txs, []) ∧ decode [0xBA] = .ok (.tsx, []) ∧
    decode [0x48] = .ok (.pha, []) ∧ decode [0x68] = .ok (.pla, []) ∧ decode [0x08] = .ok (.php, []) ∧
    decode [0x28] = .ok (.plp, []) ∧ decode [0xEA] = .ok (.nop, []) :=
  ⟨rfl, rfl, rfl, rfl, rfl, rfl, rfl, rfl, rfl, rfl, rfl⟩

/-- Examples of the SYNTAX column, and a branch written with its target (30_encoding.md R100). -/
theorem test_assembler_syntax :
    Instr.asmText 0 (.adcImm 0x44) = ['A', 'D', 'C', ' ', '#', '$', '4', '4'] ∧
    Instr.asmText 0 (.jmpInd 0x97 0x55) = ['J', 'M', 'P', ' ', '(', '$', '5', '5', '9', '7', ')'] ∧
    Instr.asmText 0 (.staIndY 0x44) = ['S', 'T', 'A', ' ', '(', '$', '4', '4', ')', ',', 'Y'] ∧
    Instr.asmText 0x8010 (.bcc 0xFC) = ['B', 'C', 'C', ' ', '$', '8', '0', '0', 'E'] := by decide

/-! ### One step of each instruction, from 95_test_vectors.md -/

/-- The reset state with A, X, Y, S, P, PC, an instruction at PC and some bytes of memory. -/
def start (pc : Addr) (a x y s p : Byte) (code : List Byte) (mem : List (Addr × Byte)) : State :=
  plantBytes pc code (mem.foldl (fun t c => plantByte c.1 c.2 t)
    { State.reset with a := a, x := x, y := y, sp := s, p := Status.ofByte p, pc := pc })

/-- A, X, Y, S, P, PC of a next state. -/
def regs : Host.Outcome State Fault Refusal → Option (Byte × Byte × Byte × Byte × Byte × Addr)
  | .next t => some (t.a, t.x, t.y, t.sp, t.p.toByte, t.pc)
  | _ => none

/-- The accesses of a next state's step. -/
def made : Host.Outcome State Fault Refusal → List (AccessKind × Addr)
  | .next t => t.cycles.map fun c => (c.kind, c.addr)
  | _ => []

/-- A byte of memory of a next state. -/
def byteAt (o : Host.Outcome State Fault Refusal) (n : Nat) : Option Byte :=
  match o with
  | .next t => some (Memory.read t.mem n)
  | _ => none

/-- A read. -/
def r (a : Addr) : AccessKind × Addr := (.read, a)

/-- A dummy read. -/
def d (a : Addr) : AccessKind × Addr := (.dummyRead, a)

/-- A write. -/
def w (a : Addr) : AccessKind × Addr := (.write, a)

/-- A dummy write. -/
def g (a : Addr) : AccessKind × Addr := (.dummyWrite, a)

/-- `ADC $20F0,X`, 95_test_vectors.md 2.2. -/
theorem test_adc_first :
    let s := start 0x8000 0x01 0x20 0x00 0xFF 0x20 [0x7D, 0xF0, 0x20] [(0x2110, 0x02)]
    regs (step s) = some (0x03, 0x20, 0x00, 0xFF, 0x20, 0x8003) ∧
    made (step s) = [r 0x8000, r 0x8001, r 0x8002, d 0x8002, r 0x2110] := by decide

/-- `ADC #$00`, 95_test_vectors.md 2.2. -/
theorem test_adc_second :
    let s := start 0x8000 0x00 0x00 0x00 0xFF 0x20 [0x69, 0x00] []
    regs (step s) = some (0x00, 0x00, 0x00, 0xFF, 0x22, 0x8002) ∧
    made (step s) = [r 0x8000, r 0x8001] := by decide

/-- `SBC $10`, 95_test_vectors.md 2.2. -/
theorem test_sbc_first :
    let s := start 0x8000 0x05 0x00 0x00 0xFF 0x21 [0xE5, 0x10] [(0x0010, 0x03)]
    regs (step s) = some (0x02, 0x00, 0x00, 0xFF, 0x21, 0x8002) ∧
    made (step s) = [r 0x8000, r 0x8001, r 0x0010] := by decide

/-- `SBC #$00`, 95_test_vectors.md 2.2. -/
theorem test_sbc_second :
    let s := start 0x8000 0x00 0x00 0x00 0xFF 0x21 [0xE9, 0x00] []
    regs (step s) = some (0x00, 0x00, 0x00, 0xFF, 0x23, 0x8002) ∧
    made (step s) = [r 0x8000, r 0x8001] := by decide

/-- `AND $10,X`, 95_test_vectors.md 2.3. -/
theorem test_and_first :
    let s := start 0x8000 0xFF 0x01 0x00 0xFF 0x20 [0x35, 0x10] [(0x0011, 0x3C)]
    regs (step s) = some (0x3C, 0x01, 0x00, 0xFF, 0x20, 0x8002) ∧
    made (step s) = [r 0x8000, r 0x8001, d 0x8001, r 0x0011] := by decide

/-- `AND #$0F`, 95_test_vectors.md 2.3. -/
theorem test_and_second :
    let s := start 0x8000 0xF0 0x00 0x00 0xFF 0x20 [0x29, 0x0F] []
    regs (step s) = some (0x00, 0x00, 0x00, 0xFF, 0x22, 0x8002) ∧
    made (step s) = [r 0x8000, r 0x8001] := by decide

/-- `ORA ($10,X)`, 95_test_vectors.md 2.3. -/
theorem test_ora_first :
    let s := start 0x8000 0x01 0x02 0x00 0xFF 0x20 [0x01, 0x10] [(0x0012, 0x00), (0x0013, 0x02), (0x0200, 0x02)]
    regs (step s) = some (0x03, 0x02, 0x00, 0xFF, 0x20, 0x8002) ∧
    made (step s) = [r 0x8000, r 0x8001, d 0x8001, r 0x0012, r 0x0013, r 0x0200] := by decide

/-- `ORA #$00`, 95_test_vectors.md 2.3. -/
theorem test_ora_second :
    let s := start 0x8000 0x00 0x00 0x00 0xFF 0x20 [0x09, 0x00] []
    regs (step s) = some (0x00, 0x00, 0x00, 0xFF, 0x22, 0x8002) ∧
    made (step s) = [r 0x8000, r 0x8001] := by decide

/-- `EOR $0200,Y`, 95_test_vectors.md 2.3. -/
theorem test_eor_first :
    let s := start 0x8000 0xAA 0x00 0x03 0xFF 0x20 [0x59, 0x00, 0x02] [(0x0203, 0x55)]
    regs (step s) = some (0xFF, 0x00, 0x03, 0xFF, 0xA0, 0x8003) ∧
    made (step s) = [r 0x8000, r 0x8001, r 0x8002, r 0x0203] := by decide

/-- `EOR #$FF`, 95_test_vectors.md 2.3. -/
theorem test_eor_second :
    let s := start 0x8000 0xFF 0x00 0x00 0xFF 0x20 [0x49, 0xFF] []
    regs (step s) = some (0x00, 0x00, 0x00, 0xFF, 0x22, 0x8002) ∧
    made (step s) = [r 0x8000, r 0x8001] := by decide

/-- `ASL A`, 95_test_vectors.md 2.4. -/
theorem test_asl_first :
    let s := start 0x8000 0x80 0x00 0x00 0xFF 0x20 [0x0A] []
    regs (step s) = some (0x00, 0x00, 0x00, 0xFF, 0x23, 0x8001) ∧
    made (step s) = [r 0x8000, d 0x8001] := by decide

/-- `ASL $44`, 95_test_vectors.md 2.4. -/
theorem test_asl_second :
    let s := start 0x8000 0x77 0x00 0x00 0xFF 0x20 [0x06, 0x44] [(0x0044, 0xC0)]
    regs (step s) = some (0x77, 0x00, 0x00, 0xFF, 0xA1, 0x8002) ∧
    made (step s) = [r 0x8000, r 0x8001, r 0x0044, g 0x0044, w 0x0044] ∧
    byteAt (step s) 0x0044 = some 0x80 := by decide

/-- `LSR A`, 95_test_vectors.md 2.4. -/
theorem test_lsr_first :
    let s := start 0x8000 0x01 0x00 0x00 0xFF 0x20 [0x4A] []
    regs (step s) = some (0x00, 0x00, 0x00, 0xFF, 0x23, 0x8001) ∧
    made (step s) = [r 0x8000, d 0x8001] := by decide

/-- `LSR $44,X`, 95_test_vectors.md 2.4. -/
theorem test_lsr_second :
    let s := start 0x8000 0x00 0x01 0x00 0xFF 0x20 [0x56, 0x44] [(0x0045, 0x03)]
    regs (step s) = some (0x00, 0x01, 0x00, 0xFF, 0x21, 0x8002) ∧
    made (step s) = [r 0x8000, r 0x8001, d 0x8001, r 0x0045, g 0x0045, w 0x0045] ∧
    byteAt (step s) 0x0045 = some 0x01 := by decide

/-- `ROL $4400`, 95_test_vectors.md 2.4. -/
theorem test_rol_first :
    let s := start 0x8000 0x00 0x00 0x00 0xFF 0x21 [0x2E, 0x00, 0x44] [(0x4400, 0x7F)]
    regs (step s) = some (0x00, 0x00, 0x00, 0xFF, 0xA0, 0x8003) ∧
    made (step s) = [r 0x8000, r 0x8001, r 0x8002, r 0x4400, g 0x4400, w 0x4400] ∧
    byteAt (step s) 0x4400 = some 0xFF := by decide

/-- `ROL A`, 95_test_vectors.md 2.4. -/
theorem test_rol_second :
    let s := start 0x8000 0x40 0x00 0x00 0xFF 0x20 [0x2A] []
    regs (step s) = some (0x80, 0x00, 0x00, 0xFF, 0xA0, 0x8001) ∧
    made (step s) = [r 0x8000, d 0x8001] := by decide

/-- `ROR $44FF,X`, 95_test_vectors.md 2.4. -/
theorem test_ror_first :
    let s := start 0x8000 0x00 0x01 0x00 0xFF 0x21 [0x7E, 0xFF, 0x44] [(0x4500, 0x02)]
    regs (step s) = some (0x00, 0x01, 0x00, 0xFF, 0xA0, 0x8003) ∧
    made (step s) = [r 0x8000, r 0x8001, r 0x8002, d 0x8002, r 0x4500, g 0x4500, w 0x4500] ∧
    byteAt (step s) 0x4500 = some 0x81 := by decide

/-- `ROR A`, 95_test_vectors.md 2.4. -/
theorem test_ror_second :
    let s := start 0x8000 0x01 0x00 0x00 0xFF 0x20 [0x6A] []
    regs (step s) = some (0x00, 0x00, 0x00, 0xFF, 0x23, 0x8001) ∧
    made (step s) = [r 0x8000, d 0x8001] := by decide

/-- `BCC $8012`, 95_test_vectors.md 2.5. -/
theorem test_bcc_first :
    let s := start 0x8000 0x00 0x00 0x00 0xFF 0x20 [0x90, 0x10] []
    regs (step s) = some (0x00, 0x00, 0x00, 0xFF, 0x20, 0x8012) ∧
    made (step s) = [r 0x8000, r 0x8001, d 0x8002] := by decide

/-- `BCC $8012`, 95_test_vectors.md 2.5. -/
theorem test_bcc_second :
    let s := start 0x8000 0x00 0x00 0x00 0xFF 0x21 [0x90, 0x10] []
    regs (step s) = some (0x00, 0x00, 0x00, 0xFF, 0x21, 0x8002) ∧
    made (step s) = [r 0x8000, r 0x8001] := by decide

/-- `BCS $8012`, 95_test_vectors.md 2.5. -/
theorem test_bcs_first :
    let s := start 0x8000 0x00 0x00 0x00 0xFF 0x21 [0xB0, 0x10] []
    regs (step s) = some (0x00, 0x00, 0x00, 0xFF, 0x21, 0x8012) ∧
    made (step s) = [r 0x8000, r 0x8001, d 0x8002] := by decide

/-- `BCS $8012`, 95_test_vectors.md 2.5. -/
theorem test_bcs_second :
    let s := start 0x8000 0x00 0x00 0x00 0xFF 0x20 [0xB0, 0x10] []
    regs (step s) = some (0x00, 0x00, 0x00, 0xFF, 0x20, 0x8002) ∧
    made (step s) = [r 0x8000, r 0x8001] := by decide

/-- `BEQ $8012`, 95_test_vectors.md 2.5. -/
theorem test_beq_first :
    let s := start 0x8000 0x00 0x00 0x00 0xFF 0x22 [0xF0, 0x10] []
    regs (step s) = some (0x00, 0x00, 0x00, 0xFF, 0x22, 0x8012) ∧
    made (step s) = [r 0x8000, r 0x8001, d 0x8002] := by decide

/-- `BEQ $000A`, 95_test_vectors.md 2.5. -/
theorem test_beq_second :
    let s := start 0xFFF8 0x00 0x00 0x00 0xFF 0x22 [0xF0, 0x10] []
    regs (step s) = some (0x00, 0x00, 0x00, 0xFF, 0x22, 0x000A) ∧
    made (step s) = [r 0xFFF8, r 0xFFF9, d 0xFFFA, d 0xFFFA] := by decide

/-- `BNE $8081`, 95_test_vectors.md 1.9. -/
theorem test_bne_first :
    let s := start 0x8000 0x00 0x00 0x00 0xFF 0x20 [0xD0, 0x7F] []
    regs (step s) = some (0x00, 0x00, 0x00, 0xFF, 0x20, 0x8081) ∧
    made (step s) = [r 0x8000, r 0x8001, d 0x8002] := by decide

/-- `BNE $7F82`, 95_test_vectors.md 1.9. -/
theorem test_bne_second :
    let s := start 0x8000 0x00 0x00 0x00 0xFF 0x20 [0xD0, 0x80] []
    regs (step s) = some (0x00, 0x00, 0x00, 0xFF, 0x20, 0x7F82) ∧
    made (step s) = [r 0x8000, r 0x8001, d 0x8002, d 0x8002] := by decide

/-- `BVC $8012`, 95_test_vectors.md 2.5. -/
theorem test_bvc_first :
    let s := start 0x8000 0x00 0x00 0x00 0xFF 0x20 [0x50, 0x10] []
    regs (step s) = some (0x00, 0x00, 0x00, 0xFF, 0x20, 0x8012) ∧
    made (step s) = [r 0x8000, r 0x8001, d 0x8002] := by decide

/-- `BVC $8012`, 95_test_vectors.md 2.5. -/
theorem test_bvc_second :
    let s := start 0x8000 0x00 0x00 0x00 0xFF 0x60 [0x50, 0x10] []
    regs (step s) = some (0x00, 0x00, 0x00, 0xFF, 0x60, 0x8002) ∧
    made (step s) = [r 0x8000, r 0x8001] := by decide

/-- `BVS $8012`, 95_test_vectors.md 2.5. -/
theorem test_bvs_first :
    let s := start 0x8000 0x00 0x00 0x00 0xFF 0x60 [0x70, 0x10] []
    regs (step s) = some (0x00, 0x00, 0x00, 0xFF, 0x60, 0x8012) ∧
    made (step s) = [r 0x8000, r 0x8001, d 0x8002] := by decide

/-- `BVS $8012`, 95_test_vectors.md 2.5. -/
theorem test_bvs_second :
    let s := start 0x8000 0x00 0x00 0x00 0xFF 0x20 [0x70, 0x10] []
    regs (step s) = some (0x00, 0x00, 0x00, 0xFF, 0x20, 0x8002) ∧
    made (step s) = [r 0x8000, r 0x8001] := by decide

/-- `BPL $8012`, 95_test_vectors.md 2.5. -/
theorem test_bpl_first :
    let s := start 0x8000 0x00 0x00 0x00 0xFF 0x20 [0x10, 0x10] []
    regs (step s) = some (0x00, 0x00, 0x00, 0xFF, 0x20, 0x8012) ∧
    made (step s) = [r 0x8000, r 0x8001, d 0x8002] := by decide

/-- `BPL $8012`, 95_test_vectors.md 2.5. -/
theorem test_bpl_second :
    let s := start 0x8000 0x00 0x00 0x00 0xFF 0xA0 [0x10, 0x10] []
    regs (step s) = some (0x00, 0x00, 0x00, 0xFF, 0xA0, 0x8002) ∧
    made (step s) = [r 0x8000, r 0x8001] := by decide

/-- `BMI $8012`, 95_test_vectors.md 2.5. -/
theorem test_bmi_first :
    let s := start 0x8000 0x00 0x00 0x00 0xFF 0xA0 [0x30, 0x10] []
    regs (step s) = some (0x00, 0x00, 0x00, 0xFF, 0xA0, 0x8012) ∧
    made (step s) = [r 0x8000, r 0x8001, d 0x8002] := by decide

/-- `BMI $8012`, 95_test_vectors.md 2.5. -/
theorem test_bmi_second :
    let s := start 0x8000 0x00 0x00 0x00 0xFF 0x20 [0x30, 0x10] []
    regs (step s) = some (0x00, 0x00, 0x00, 0xFF, 0x20, 0x8002) ∧
    made (step s) = [r 0x8000, r 0x8001] := by decide

/-- `BIT $4400`, 95_test_vectors.md 2.6. -/
theorem test_bit_first :
    let s := start 0x8000 0x00 0x00 0x00 0xFF 0x20 [0x2C, 0x00, 0x44] [(0x4400, 0x40)]
    regs (step s) = some (0x00, 0x00, 0x00, 0xFF, 0x62, 0x8003) ∧
    made (step s) = [r 0x8000, r 0x8001, r 0x8002, r 0x4400] := by decide

/-- `BIT $44`, 95_test_vectors.md 2.6. -/
theorem test_bit_second :
    let s := start 0x8000 0xFF 0x00 0x00 0xFF 0x20 [0x24, 0x44] [(0x0044, 0xC0)]
    regs (step s) = some (0xFF, 0x00, 0x00, 0xFF, 0xE0, 0x8002) ∧
    made (step s) = [r 0x8000, r 0x8001, r 0x0044] := by decide

/-- `JMP ($03FF)`, 95_test_vectors.md 1.7. -/
theorem test_jmp_first :
    let s := start 0x8000 0x00 0x00 0x00 0xFF 0x20 [0x6C, 0xFF, 0x03] [(0x0300, 0x56), (0x03FF, 0x34), (0x0400, 0x12)]
    regs (step s) = some (0x00, 0x00, 0x00, 0xFF, 0x20, 0x5634) ∧
    made (step s) = [r 0x8000, r 0x8001, r 0x8002, r 0x03FF, r 0x0300] := by decide

/-- `JMP $5597`, 95_test_vectors.md 2.7. -/
theorem test_jmp_second :
    let s := start 0x8000 0x00 0x00 0x00 0xFF 0x20 [0x4C, 0x97, 0x55] []
    regs (step s) = some (0x00, 0x00, 0x00, 0xFF, 0x20, 0x5597) ∧
    made (step s) = [r 0x8000, r 0x8001, r 0x8002] := by decide

/-- `JSR $5597`, 95_test_vectors.md 1.5. -/
theorem test_jsr_first :
    let s := start 0x8000 0x00 0x00 0x00 0xFF 0x20 [0x20, 0x97, 0x55] []
    regs (step s) = some (0x00, 0x00, 0x00, 0xFD, 0x20, 0x5597) ∧
    made (step s) = [r 0x8000, r 0x8001, d 0x01FF, w 0x01FF, w 0x01FE, r 0x8002] ∧
    byteAt (step s) 0x01FE = some 0x02 ∧
    byteAt (step s) 0x01FF = some 0x80 := by decide

/-- `JSR $9000`, 95_test_vectors.md 2.7. -/
theorem test_jsr_second :
    let s := start 0x8000 0x00 0x00 0x00 0xFD 0x20 [0x20, 0x00, 0x90] []
    regs (step s) = some (0x00, 0x00, 0x00, 0xFB, 0x20, 0x9000) ∧
    made (step s) = [r 0x8000, r 0x8001, d 0x01FD, w 0x01FD, w 0x01FC, r 0x8002] ∧
    byteAt (step s) 0x01FC = some 0x02 ∧
    byteAt (step s) 0x01FD = some 0x80 := by decide

/-- `RTS`, 95_test_vectors.md 1.5. -/
theorem test_rts_first :
    let s := start 0x5597 0x00 0x00 0x00 0xFD 0x20 [0x60] [(0x01FE, 0x02), (0x01FF, 0x80)]
    regs (step s) = some (0x00, 0x00, 0x00, 0xFF, 0x20, 0x8003) ∧
    made (step s) = [r 0x5597, d 0x5598, d 0x01FD, r 0x01FE, r 0x01FF, d 0x8002] := by decide

/-- `RTS`, 95_test_vectors.md 2.7. -/
theorem test_rts_second :
    let s := start 0x9000 0x00 0x00 0x00 0xFD 0x20 [0x60] [(0x01FE, 0x02), (0x01FF, 0x80)]
    regs (step s) = some (0x00, 0x00, 0x00, 0xFF, 0x20, 0x8003) ∧
    made (step s) = [r 0x9000, d 0x9001, d 0x01FD, r 0x01FE, r 0x01FF, d 0x8002] := by decide

/-- `BRK`, 95_test_vectors.md 1.8. -/
theorem test_brk_first :
    let s := start 0x8000 0x00 0x00 0x00 0xFF 0x20 [0x00] [(0xFFFE, 0x00), (0xFFFF, 0x90)]
    regs (step s) = some (0x00, 0x00, 0x00, 0xFC, 0x34, 0x9000) ∧
    made (step s) = [r 0x8000, d 0x8001, w 0x01FF, w 0x01FE, w 0x01FD, r 0xFFFE, r 0xFFFF] ∧
    byteAt (step s) 0x01FD = some 0x30 ∧
    byteAt (step s) 0x01FE = some 0x02 ∧
    byteAt (step s) 0x01FF = some 0x80 := by decide

/-- `BRK`, 95_test_vectors.md 2.7. -/
theorem test_brk_second :
    let s := start 0x8000 0x00 0x00 0x00 0xFF 0xA1 [0x00] [(0xFFFE, 0x00), (0xFFFF, 0x90)]
    regs (step s) = some (0x00, 0x00, 0x00, 0xFC, 0xB5, 0x9000) ∧
    made (step s) = [r 0x8000, d 0x8001, w 0x01FF, w 0x01FE, w 0x01FD, r 0xFFFE, r 0xFFFF] ∧
    byteAt (step s) 0x01FD = some 0xB1 ∧
    byteAt (step s) 0x01FE = some 0x02 ∧
    byteAt (step s) 0x01FF = some 0x80 := by decide

/-- `RTI`, 95_test_vectors.md 2.7. -/
theorem test_rti_first :
    let s := start 0x9000 0x00 0x00 0x00 0xFC 0x24 [0x40] [(0x01FD, 0xA1), (0x01FE, 0x02), (0x01FF, 0x80)]
    regs (step s) = some (0x00, 0x00, 0x00, 0xFF, 0xA1, 0x8002) ∧
    made (step s) = [r 0x9000, d 0x9001, d 0x01FC, r 0x01FD, r 0x01FE, r 0x01FF] := by decide

/-- `RTI`, 95_test_vectors.md 2.7. -/
theorem test_rti_second :
    let s := start 0x9000 0x00 0x00 0x00 0xFC 0xFF [0x40] [(0x01FD, 0x00), (0x01FE, 0x34), (0x01FF, 0x12)]
    regs (step s) = some (0x00, 0x00, 0x00, 0xFF, 0x20, 0x1234) ∧
    made (step s) = [r 0x9000, d 0x9001, d 0x01FC, r 0x01FD, r 0x01FE, r 0x01FF] := by decide

/-- `CMP $44`, 95_test_vectors.md 2.8. -/
theorem test_cmp_first :
    let s := start 0x8000 0x10 0x00 0x00 0xFF 0x20 [0xC5, 0x44] [(0x0044, 0x10)]
    regs (step s) = some (0x10, 0x00, 0x00, 0xFF, 0x23, 0x8002) ∧
    made (step s) = [r 0x8000, r 0x8001, r 0x0044] := by decide

/-- `CMP #$40`, 95_test_vectors.md 2.8. -/
theorem test_cmp_second :
    let s := start 0x8000 0x40 0x00 0x00 0xFF 0x20 [0xC9, 0x40] []
    regs (step s) = some (0x40, 0x00, 0x00, 0xFF, 0x23, 0x8002) ∧
    made (step s) = [r 0x8000, r 0x8001] := by decide

/-- `CPX $4400`, 95_test_vectors.md 2.8. -/
theorem test_cpx_first :
    let s := start 0x8000 0x00 0x01 0x00 0xFF 0x20 [0xEC, 0x00, 0x44] [(0x4400, 0x02)]
    regs (step s) = some (0x00, 0x01, 0x00, 0xFF, 0xA0, 0x8003) ∧
    made (step s) = [r 0x8000, r 0x8001, r 0x8002, r 0x4400] := by decide

/-- `CPX #$10`, 95_test_vectors.md 2.8. -/
theorem test_cpx_second :
    let s := start 0x8000 0x00 0x20 0x00 0xFF 0x20 [0xE0, 0x10] []
    regs (step s) = some (0x00, 0x20, 0x00, 0xFF, 0x21, 0x8002) ∧
    made (step s) = [r 0x8000, r 0x8001] := by decide

/-- `CPY $44`, 95_test_vectors.md 2.8. -/
theorem test_cpy_first :
    let s := start 0x8000 0x00 0x00 0xFF 0xFF 0x20 [0xC4, 0x44] [(0x0044, 0x01)]
    regs (step s) = some (0x00, 0x00, 0xFF, 0xFF, 0xA1, 0x8002) ∧
    made (step s) = [r 0x8000, r 0x8001, r 0x0044] := by decide

/-- `CPY #$00`, 95_test_vectors.md 2.8. -/
theorem test_cpy_second :
    let s := start 0x8000 0x00 0x00 0x00 0xFF 0x20 [0xC0, 0x00] []
    regs (step s) = some (0x00, 0x00, 0x00, 0xFF, 0x23, 0x8002) ∧
    made (step s) = [r 0x8000, r 0x8001] := by decide

/-- `INC $FF,X`, 95_test_vectors.md 2.9. -/
theorem test_inc_first :
    let s := start 0x8000 0x00 0x01 0x00 0xFF 0x20 [0xF6, 0xFF] [(0x0000, 0x09)]
    regs (step s) = some (0x00, 0x01, 0x00, 0xFF, 0x20, 0x8002) ∧
    made (step s) = [r 0x8000, r 0x8001, d 0x8001, r 0x0000, g 0x0000, w 0x0000] ∧
    byteAt (step s) 0x0000 = some 0x0A := by decide

/-- `INC $44`, 95_test_vectors.md 1.10. -/
theorem test_inc_second :
    let s := start 0x8000 0x00 0x00 0x00 0xFF 0x20 [0xE6, 0x44] [(0x0044, 0x7F)]
    regs (step s) = some (0x00, 0x00, 0x00, 0xFF, 0xA0, 0x8002) ∧
    made (step s) = [r 0x8000, r 0x8001, r 0x0044, g 0x0044, w 0x0044] ∧
    byteAt (step s) 0x0044 = some 0x80 := by decide

/-- `DEC $44FF,X`, 95_test_vectors.md 2.9. -/
theorem test_dec_first :
    let s := start 0x8000 0x00 0x01 0x00 0xFF 0x20 [0xDE, 0xFF, 0x44] [(0x4500, 0x80)]
    regs (step s) = some (0x00, 0x01, 0x00, 0xFF, 0x20, 0x8003) ∧
    made (step s) = [r 0x8000, r 0x8001, r 0x8002, d 0x8002, r 0x4500, g 0x4500, w 0x4500] ∧
    byteAt (step s) 0x4500 = some 0x7F := by decide

/-- `DEC $44`, 95_test_vectors.md 2.9. -/
theorem test_dec_second :
    let s := start 0x8000 0x00 0x00 0x00 0xFF 0x20 [0xC6, 0x44] [(0x0044, 0x00)]
    regs (step s) = some (0x00, 0x00, 0x00, 0xFF, 0xA0, 0x8002) ∧
    made (step s) = [r 0x8000, r 0x8001, r 0x0044, g 0x0044, w 0x0044] ∧
    byteAt (step s) 0x0044 = some 0xFF := by decide

/-- `INX`, 95_test_vectors.md 2.9. -/
theorem test_inx_first :
    let s := start 0x8000 0x00 0xFF 0x00 0xFF 0x20 [0xE8] []
    regs (step s) = some (0x00, 0x00, 0x00, 0xFF, 0x22, 0x8001) ∧
    made (step s) = [r 0x8000, d 0x8001] := by decide

/-- `INX`, 95_test_vectors.md 2.9. -/
theorem test_inx_second :
    let s := start 0x8000 0x00 0x7F 0x00 0xFF 0x20 [0xE8] []
    regs (step s) = some (0x00, 0x80, 0x00, 0xFF, 0xA0, 0x8001) ∧
    made (step s) = [r 0x8000, d 0x8001] := by decide

/-- `DEX`, 95_test_vectors.md 2.9. -/
theorem test_dex_first :
    let s := start 0x8000 0x00 0x00 0x00 0xFF 0x20 [0xCA] []
    regs (step s) = some (0x00, 0xFF, 0x00, 0xFF, 0xA0, 0x8001) ∧
    made (step s) = [r 0x8000, d 0x8001] := by decide

/-- `DEX`, 95_test_vectors.md 2.9. -/
theorem test_dex_second :
    let s := start 0x8000 0x00 0x01 0x00 0xFF 0x20 [0xCA] []
    regs (step s) = some (0x00, 0x00, 0x00, 0xFF, 0x22, 0x8001) ∧
    made (step s) = [r 0x8000, d 0x8001] := by decide

/-- `INY`, 95_test_vectors.md 2.9. -/
theorem test_iny_first :
    let s := start 0x8000 0x00 0x00 0xFF 0xFF 0x20 [0xC8] []
    regs (step s) = some (0x00, 0x00, 0x00, 0xFF, 0x22, 0x8001) ∧
    made (step s) = [r 0x8000, d 0x8001] := by decide

/-- `DEY`, 95_test_vectors.md 2.9. -/
theorem test_dey_first :
    let s := start 0x8000 0x00 0x00 0x00 0xFF 0x20 [0x88] []
    regs (step s) = some (0x00, 0x00, 0xFF, 0xFF, 0xA0, 0x8001) ∧
    made (step s) = [r 0x8000, d 0x8001] := by decide

/-- `DEY`, 95_test_vectors.md 2.9. -/
theorem test_dey_second :
    let s := start 0x8000 0x00 0x00 0x80 0xFF 0x20 [0x88] []
    regs (step s) = some (0x00, 0x00, 0x7F, 0xFF, 0x20, 0x8001) ∧
    made (step s) = [r 0x8000, d 0x8001] := by decide

/-- `CLC`, 95_test_vectors.md 2.10. -/
theorem test_clc_first :
    let s := start 0x8000 0x00 0x00 0x00 0xFF 0xFF [0x18] []
    regs (step s) = some (0x00, 0x00, 0x00, 0xFF, 0xFE, 0x8001) ∧
    made (step s) = [r 0x8000, d 0x8001] := by decide

/-- `CLC`, 95_test_vectors.md 2.10. -/
theorem test_clc_second :
    let s := start 0x8000 0x00 0x00 0x00 0xFF 0x20 [0x18] []
    regs (step s) = some (0x00, 0x00, 0x00, 0xFF, 0x20, 0x8001) ∧
    made (step s) = [r 0x8000, d 0x8001] := by decide

/-- `SEC`, 95_test_vectors.md 2.10. -/
theorem test_sec_first :
    let s := start 0x8000 0x00 0x00 0x00 0xFF 0x20 [0x38] []
    regs (step s) = some (0x00, 0x00, 0x00, 0xFF, 0x21, 0x8001) ∧
    made (step s) = [r 0x8000, d 0x8001] := by decide

/-- `CLI`, 95_test_vectors.md 2.10. -/
theorem test_cli_first :
    let s := start 0x8000 0x00 0x00 0x00 0xFF 0xFF [0x58] []
    regs (step s) = some (0x00, 0x00, 0x00, 0xFF, 0xFB, 0x8001) ∧
    made (step s) = [r 0x8000, d 0x8001] := by decide

/-- `SEI`, 95_test_vectors.md 2.10. -/
theorem test_sei_first :
    let s := start 0x8000 0x00 0x00 0x00 0xFF 0x20 [0x78] []
    regs (step s) = some (0x00, 0x00, 0x00, 0xFF, 0x24, 0x8001) ∧
    made (step s) = [r 0x8000, d 0x8001] := by decide

/-- `CLD`, 95_test_vectors.md 2.10. -/
theorem test_cld_first :
    let s := start 0x8000 0x00 0x00 0x00 0xFF 0xFF [0xD8] []
    regs (step s) = some (0x00, 0x00, 0x00, 0xFF, 0xF7, 0x8001) ∧
    made (step s) = [r 0x8000, d 0x8001] := by decide

/-- `SED`, 95_test_vectors.md 2.10. -/
theorem test_sed_first :
    let s := start 0x8000 0x00 0x00 0x00 0xFF 0x20 [0xF8] []
    regs (step s) = some (0x00, 0x00, 0x00, 0xFF, 0x28, 0x8001) ∧
    made (step s) = [r 0x8000, d 0x8001] := by decide

/-- `CLV`, 95_test_vectors.md 2.10. -/
theorem test_clv_first :
    let s := start 0x8000 0x00 0x00 0x00 0xFF 0xFF [0xB8] []
    regs (step s) = some (0x00, 0x00, 0x00, 0xFF, 0xBF, 0x8001) ∧
    made (step s) = [r 0x8000, d 0x8001] := by decide

/-- `LDA ($44),Y`, 95_test_vectors.md 2.1. -/
theorem test_lda_first :
    let s := start 0x8000 0x00 0x00 0x10 0xFF 0x20 [0xB1, 0x44] [(0x0044, 0xF8), (0x0045, 0x30), (0x3108, 0x5E)]
    regs (step s) = some (0x5E, 0x00, 0x10, 0xFF, 0x20, 0x8002) ∧
    made (step s) = [r 0x8000, r 0x8001, r 0x0044, r 0x0045, d 0x0045, r 0x3108] := by decide

/-- `LDA $FFFF,Y`, 95_test_vectors.md 2.1. -/
theorem test_lda_second :
    let s := start 0x8000 0x00 0x00 0x02 0xFF 0x20 [0xB9, 0xFF, 0xFF] [(0x0001, 0x36)]
    regs (step s) = some (0x36, 0x00, 0x02, 0xFF, 0x20, 0x8003) ∧
    made (step s) = [r 0x8000, r 0x8001, r 0x8002, d 0x8002, r 0x0001] := by decide

/-- `LDX $F0,Y`, 95_test_vectors.md 2.1. -/
theorem test_ldx_first :
    let s := start 0x8000 0x00 0x00 0x20 0xFF 0x20 [0xB6, 0xF0] [(0x0010, 0x33)]
    regs (step s) = some (0x00, 0x33, 0x20, 0xFF, 0x20, 0x8002) ∧
    made (step s) = [r 0x8000, r 0x8001, d 0x8001, r 0x0010] := by decide

/-- `LDX $44FF,Y`, 95_test_vectors.md 2.11. -/
theorem test_ldx_second :
    let s := start 0x8000 0x00 0x00 0x01 0xFF 0x20 [0xBE, 0xFF, 0x44] [(0x4500, 0x21)]
    regs (step s) = some (0x00, 0x21, 0x01, 0xFF, 0x20, 0x8003) ∧
    made (step s) = [r 0x8000, r 0x8001, r 0x8002, d 0x8002, r 0x4500] := by decide

/-- `LDY $44,X`, 95_test_vectors.md 2.11. -/
theorem test_ldy_first :
    let s := start 0x8000 0x00 0x01 0x00 0xFF 0x20 [0xB4, 0x44] [(0x0045, 0x80)]
    regs (step s) = some (0x00, 0x01, 0x80, 0xFF, 0xA0, 0x8002) ∧
    made (step s) = [r 0x8000, r 0x8001, d 0x8001, r 0x0045] := by decide

/-- `LDY $4400,X`, 95_test_vectors.md 2.11. -/
theorem test_ldy_second :
    let s := start 0x8000 0x00 0xFF 0x00 0xFF 0x20 [0xBC, 0x00, 0x44] [(0x44FF, 0x22)]
    regs (step s) = some (0x00, 0xFF, 0x22, 0xFF, 0x20, 0x8003) ∧
    made (step s) = [r 0x8000, r 0x8001, r 0x8002, r 0x44FF] := by decide

/-- `STA ($20),Y`, 95_test_vectors.md 2.11. -/
theorem test_sta_first :
    let s := start 0x8000 0x78 0x00 0x10 0xFF 0x20 [0x91, 0x20] [(0x0020, 0xF8), (0x0021, 0x02)]
    regs (step s) = some (0x78, 0x00, 0x10, 0xFF, 0x20, 0x8002) ∧
    made (step s) = [r 0x8000, r 0x8001, r 0x0020, r 0x0021, d 0x0021, w 0x0308] ∧
    byteAt (step s) 0x0308 = some 0x78 := by decide

/-- `STA ($20,X)`, 95_test_vectors.md 2.11. -/
theorem test_sta_second :
    let s := start 0x8000 0x77 0x04 0x00 0xFF 0x20 [0x81, 0x20] [(0x0024, 0x00), (0x0025, 0x03)]
    regs (step s) = some (0x77, 0x04, 0x00, 0xFF, 0x20, 0x8002) ∧
    made (step s) = [r 0x8000, r 0x8001, d 0x8001, r 0x0024, r 0x0025, w 0x0300] ∧
    byteAt (step s) 0x0300 = some 0x77 := by decide

/-- `STX $FF,Y`, 95_test_vectors.md 2.11. -/
theorem test_stx_first :
    let s := start 0x8000 0x00 0x9A 0x02 0xFF 0x20 [0x96, 0xFF] []
    regs (step s) = some (0x00, 0x9A, 0x02, 0xFF, 0x20, 0x8002) ∧
    made (step s) = [r 0x8000, r 0x8001, d 0x8001, w 0x0001] ∧
    byteAt (step s) 0x0001 = some 0x9A := by decide

/-- `STX $4400`, 95_test_vectors.md 2.11. -/
theorem test_stx_second :
    let s := start 0x8000 0x00 0x9B 0x00 0xFF 0x20 [0x8E, 0x00, 0x44] []
    regs (step s) = some (0x00, 0x9B, 0x00, 0xFF, 0x20, 0x8003) ∧
    made (step s) = [r 0x8000, r 0x8001, r 0x8002, w 0x4400] ∧
    byteAt (step s) 0x4400 = some 0x9B := by decide

/-- `STY $44,X`, 95_test_vectors.md 2.11. -/
theorem test_sty_first :
    let s := start 0x8000 0x00 0x01 0x67 0xFF 0x20 [0x94, 0x44] []
    regs (step s) = some (0x00, 0x01, 0x67, 0xFF, 0x20, 0x8002) ∧
    made (step s) = [r 0x8000, r 0x8001, d 0x8001, w 0x0045] ∧
    byteAt (step s) 0x0045 = some 0x67 := by decide

/-- `STY $44`, 95_test_vectors.md 2.11. -/
theorem test_sty_second :
    let s := start 0x8000 0x00 0x00 0x66 0xFF 0x20 [0x84, 0x44] []
    regs (step s) = some (0x00, 0x00, 0x66, 0xFF, 0x20, 0x8002) ∧
    made (step s) = [r 0x8000, r 0x8001, w 0x0044] ∧
    byteAt (step s) 0x0044 = some 0x66 := by decide

/-- `TAX`, 95_test_vectors.md 2.12. -/
theorem test_tax_first :
    let s := start 0x8000 0x80 0x00 0x00 0xFF 0x20 [0xAA] []
    regs (step s) = some (0x80, 0x80, 0x00, 0xFF, 0xA0, 0x8001) ∧
    made (step s) = [r 0x8000, d 0x8001] := by decide

/-- `TAX`, 95_test_vectors.md 2.12. -/
theorem test_tax_second :
    let s := start 0x8000 0x00 0x55 0x00 0xFF 0x20 [0xAA] []
    regs (step s) = some (0x00, 0x00, 0x00, 0xFF, 0x22, 0x8001) ∧
    made (step s) = [r 0x8000, d 0x8001] := by decide

/-- `TXA`, 95_test_vectors.md 2.12. -/
theorem test_txa_first :
    let s := start 0x8000 0x00 0x7F 0x00 0xFF 0xA2 [0x8A] []
    regs (step s) = some (0x7F, 0x7F, 0x00, 0xFF, 0x20, 0x8001) ∧
    made (step s) = [r 0x8000, d 0x8001] := by decide

/-- `TAY`, 95_test_vectors.md 2.12. -/
theorem test_tay_first :
    let s := start 0x8000 0xFF 0x00 0x00 0xFF 0x20 [0xA8] []
    regs (step s) = some (0xFF, 0x00, 0xFF, 0xFF, 0xA0, 0x8001) ∧
    made (step s) = [r 0x8000, d 0x8001] := by decide

/-- `TYA`, 95_test_vectors.md 2.12. -/
theorem test_tya_first :
    let s := start 0x8000 0x11 0x00 0x00 0xFF 0x20 [0x98] []
    regs (step s) = some (0x00, 0x00, 0x00, 0xFF, 0x22, 0x8001) ∧
    made (step s) = [r 0x8000, d 0x8001] := by decide

/-- `TXS`, 95_test_vectors.md 2.12. -/
theorem test_txs_first :
    let s := start 0x8000 0x00 0x00 0x00 0xFF 0x20 [0x9A] []
    regs (step s) = some (0x00, 0x00, 0x00, 0x00, 0x20, 0x8001) ∧
    made (step s) = [r 0x8000, d 0x8001] := by decide

/-- `TXS`, 95_test_vectors.md 2.12. -/
theorem test_txs_second :
    let s := start 0x8000 0x00 0xFF 0x00 0x10 0x20 [0x9A] []
    regs (step s) = some (0x00, 0xFF, 0x00, 0xFF, 0x20, 0x8001) ∧
    made (step s) = [r 0x8000, d 0x8001] := by decide

/-- `TSX`, 95_test_vectors.md 2.12. -/
theorem test_tsx_first :
    let s := start 0x8000 0x00 0x00 0x00 0xFD 0x20 [0xBA] []
    regs (step s) = some (0x00, 0xFD, 0x00, 0xFD, 0xA0, 0x8001) ∧
    made (step s) = [r 0x8000, d 0x8001] := by decide

/-- `TSX`, 95_test_vectors.md 2.12. -/
theorem test_tsx_second :
    let s := start 0x8000 0x00 0x11 0x00 0x00 0x20 [0xBA] []
    regs (step s) = some (0x00, 0x00, 0x00, 0x00, 0x22, 0x8001) ∧
    made (step s) = [r 0x8000, d 0x8001] := by decide

/-- `PHA`, 95_test_vectors.md 1.4. -/
theorem test_pha_first :
    let s := start 0x8000 0x42 0x00 0x00 0xFF 0x20 [0x48] []
    regs (step s) = some (0x42, 0x00, 0x00, 0xFE, 0x20, 0x8001) ∧
    made (step s) = [r 0x8000, d 0x8001, w 0x01FF] ∧
    byteAt (step s) 0x01FF = some 0x42 := by decide

/-- `PHA`, 95_test_vectors.md 2.12. -/
theorem test_pha_second :
    let s := start 0x8000 0x42 0x00 0x00 0xFF 0x20 [0x48] []
    regs (step s) = some (0x42, 0x00, 0x00, 0xFE, 0x20, 0x8001) ∧
    made (step s) = [r 0x8000, d 0x8001, w 0x01FF] ∧
    byteAt (step s) 0x01FF = some 0x42 := by decide

/-- `PLA`, 95_test_vectors.md 2.12. -/
theorem test_pla_first :
    let s := start 0x8000 0x55 0x00 0x00 0xFE 0x20 [0x68] [(0x01FF, 0x00)]
    regs (step s) = some (0x00, 0x00, 0x00, 0xFF, 0x22, 0x8001) ∧
    made (step s) = [r 0x8000, d 0x8001, d 0x01FE, r 0x01FF] := by decide

/-- `PLA`, 95_test_vectors.md 2.12. -/
theorem test_pla_second :
    let s := start 0x8000 0x00 0x00 0x00 0xFF 0x20 [0x68] [(0x0100, 0x80)]
    regs (step s) = some (0x80, 0x00, 0x00, 0x00, 0xA0, 0x8001) ∧
    made (step s) = [r 0x8000, d 0x8001, d 0x01FF, r 0x0100] := by decide

/-- `PHP`, 95_test_vectors.md 1.6. -/
theorem test_php_first :
    let s := start 0x8000 0x00 0x00 0x00 0xFF 0x21 [0x08] []
    regs (step s) = some (0x00, 0x00, 0x00, 0xFE, 0x21, 0x8001) ∧
    made (step s) = [r 0x8000, d 0x8001, w 0x01FF] ∧
    byteAt (step s) 0x01FF = some 0x31 := by decide

/-- `PHP`, 95_test_vectors.md 2.12. -/
theorem test_php_second :
    let s := start 0x8000 0x00 0x00 0x00 0xFF 0xE3 [0x08] []
    regs (step s) = some (0x00, 0x00, 0x00, 0xFE, 0xE3, 0x8001) ∧
    made (step s) = [r 0x8000, d 0x8001, w 0x01FF] ∧
    byteAt (step s) 0x01FF = some 0xF3 := by decide

/-- `PLP`, 95_test_vectors.md 2.12. -/
theorem test_plp_first :
    let s := start 0x8000 0x00 0x00 0x00 0xFE 0x20 [0x28] [(0x01FF, 0xC3)]
    regs (step s) = some (0x00, 0x00, 0x00, 0xFF, 0xE3, 0x8001) ∧
    made (step s) = [r 0x8000, d 0x8001, d 0x01FE, r 0x01FF] := by decide

/-- `PLP`, 95_test_vectors.md 2.12. -/
theorem test_plp_second :
    let s := start 0x8000 0x00 0x00 0x00 0xFE 0xFF [0x28] [(0x01FF, 0x00)]
    regs (step s) = some (0x00, 0x00, 0x00, 0xFF, 0x20, 0x8001) ∧
    made (step s) = [r 0x8000, d 0x8001, d 0x01FE, r 0x01FF] := by decide

/-- `NOP`, 95_test_vectors.md 2.12. -/
theorem test_nop_first :
    let s := start 0x8000 0x01 0x02 0x03 0xFF 0xE3 [0xEA] []
    regs (step s) = some (0x01, 0x02, 0x03, 0xFF, 0xE3, 0x8001) ∧
    made (step s) = [r 0x8000, d 0x8001] := by decide

/-! ### Interrupt sequences (60_exceptions.md, the worked examples) -/

/-- The state of the worked example of 60_exceptions.md R256, with a RESET requested. -/
def resetExample : State :=
  { start 0x1234 0 0 0 0x42 0x20 [] [(0xFFFD, 0x80)] with resetReq := true, irqLine := true, nmiPending := true }

/-- RESET: seven reads, PC from the vector, I set, D kept; the request is consumed (60_exceptions.md R256, R260). -/
theorem test_reset_sequence :
    made (step resetExample) = [d 0x1234, d 0x1234, d 0x0142, d 0x0141, d 0x0140, r 0xFFFC, r 0xFFFD] ∧
    (match step resetExample with
      | .next t => t.pc = 0x8000 ∧ t.p.i = true ∧ t.p.d = false ∧ t.resetReq = false ∧ t.irqLine = true
      | _ => False) := ⟨by decide, rfl, rfl, rfl, rfl, rfl⟩

/-- The state of the worked example of 60_exceptions.md R257. -/
def nmiExample : State :=
  { start 0x8123 0 0 0 0xFF 0xB1 [] [(0xFFFB, 0xC0)] with nmiPending := true }

/-- NMI (60_exceptions.md R257). -/
theorem test_nmi_sequence :
    regs (step nmiExample) = some (0, 0, 0, 0xFC, 0xA5, 0xC000) ∧
    made (step nmiExample) = [d 0x8123, d 0x8123, w 0x01FF, w 0x01FE, w 0x01FD, r 0xFFFA, r 0xFFFB] ∧
    byteAt (step nmiExample) 0x01FF = some 0x81 ∧ byteAt (step nmiExample) 0x01FE = some 0x23 ∧
    byteAt (step nmiExample) 0x01FD = some 0xA1 := by decide

/-- An IRQ with I = 0 is taken, its line stays asserted (60_exceptions.md R253, R258). -/
def irqExample : State :=
  { start 0x8000 0 0 0 0x01 0x28 [0xEA] [(0xFFFF, 0x90)] with irqLine := true }

/-- IRQ: S wraps inside the stack page, D is kept, B is clear in the pushed byte (60_exceptions.md R258). -/
theorem test_irq_sequence :
    regs (step irqExample) = some (0, 0, 0, 0xFE, 0x2C, 0x9000) ∧
    byteAt (step irqExample) 0x0101 = some 0x80 ∧ byteAt (step irqExample) 0x0100 = some 0x00 ∧
    byteAt (step irqExample) 0x01FF = some 0x28 := by decide

/-- An IRQ with I = 1 is ignored: the instruction at PC runs (60_exceptions.md R258). -/
def irqMasked : State := { start 0x8000 0 0 0 0xFF 0x24 [0xEA] [] with irqLine := true }

/-- See `irqMasked`. -/
theorem test_irq_masked : regs (step irqMasked) = some (0, 0, 0, 0xFF, 0x24, 0x8001) := by decide

/-- A CLI with the IRQ line asserted by the environment before the next boundary (10_state.md R30, 92 D7). -/
def cliThenIrq : State :=
  { start 0x8000 0 0 0 0xFF 0x24 [0x58, 0xEA] [(0xFFFF, 0x90)] with env := [⟨false, false, false⟩, ⟨false, false, true⟩] }

/-- The next state of an outcome, or a given one. -/
def nextOf (o : Host.Outcome State Fault Refusal) (s : State) : State :=
  match o with
  | .next t => t
  | _ => s

/-- The IRQ is taken at the boundary right after the CLI (60_exceptions.md R254). -/
theorem test_irq_right_after_cli :
    regs (step cliThenIrq) = some (0, 0, 0, 0xFF, 0x20, 0x8001) ∧
    regs (step (nextOf (step cliThenIrq) cliThenIrq)) = some (0, 0, 0, 0xFC, 0x24, 0x9000) := ⟨by decide, by decide⟩

/-- A taken BRK after which the environment signals an NMI (60_exceptions.md R266). -/
def brkThenNmi : State :=
  { start 0x8000 0 0 0 0xFF 0x20 [0x00] [(0xFFFF, 0x90)] with env := [⟨false, false, false⟩, ⟨false, true, false⟩] }

/-- The same with a RESET requested too. -/
def brkThenReset : State := { brkThenNmi with env := [⟨false, false, false⟩, ⟨true, true, false⟩] }

/-- An NMI during a BRK is the spec's `fault BrkInterrupted`; a RESET goes before it (60_exceptions.md R266). -/
theorem test_nmi_during_brk :
    step (nextOf (step brkThenNmi) brkThenNmi) = .fault .brkInterrupted ∧
    made (step (nextOf (step brkThenReset) brkThenReset)) =
      [d 0x9000, d 0x9000, d 0x01FC, d 0x01FB, d 0x01FA, r 0xFFFC, r 0xFFFD] := ⟨rfl, by decide⟩

/-- An undocumented opcode at PC (30_encoding.md R98). -/
theorem test_undocumented : step (start 0x8000 0 0 0 0xFF 0x20 [0x02] []) = .refused (.undocumented 0x02) := rfl

/-! ### The board: read-only memory and devices (20_memory.md R74) -/

/-- Memory but for read-only addresses from $8000 up and a device at $2000 to $2007. -/
def boardExample (code : List Byte) : State :=
  { start 0x8000 0x12 0 0 0xFF 0x20 code [] with board := [⟨0x8000, 0x8000, .readOnly⟩, ⟨0x2000, 8, .device⟩] }

/-- A store to read-only memory changes nothing (log 7); one to a device is recorded as an access. -/
theorem test_store_to_read_only :
    byteAt (step (boardExample [0x8D, 0x00, 0x80])) 0x8000 = some 0x8D ∧
    made (step (boardExample [0x8D, 0x00, 0x20])) = [r 0x8000, r 0x8001, r 0x8002, w 0x2000] ∧
    byteAt (step (boardExample [0x8D, 0x00, 0x20])) 0x2000 = some 0x00 := ⟨rfl, rfl, rfl⟩

/-- A load from a device gives the free value of that clock and address (log 6). -/
theorem test_load_from_device :
    (match step (boardExample [0xAD, 0x02, 0x20]) with
      | .next t => t.a = Config.deviceRead 3 0x2002 ∧ t.pc = 0x8003
      | _ => False) := ⟨rfl, rfl⟩

/-- A write keeps the canonical form: writing $00 removes the cell, cells stay sorted. -/
theorem test_memory_canonical :
    Memory.write [(1, 5#8), (9, 7#8)] 4 6#8 = [(1, 5#8), (4, 6#8), (9, 7#8)] ∧
    Memory.write [(1, 5#8), (9, 7#8)] 9 0#8 = [(1, 5#8)] ∧ Memory.wf [(1, 5#8), (1, 7#8)] = false := by decide

/-! ### Witnesses: the hypotheses of the obligations can be met -/

/-- All registers in use, flags mixed, S at the bottom of the stack page, pointers in the zero page. -/
def sample (code : List Byte) : State :=
  start 0x80FE 0x8F 0x05 0x20 0x00 0xE1 code [(0x0010, 0xF0), (0x0011, 0x02), (0x0015, 0x34), (0x0016, 0x12)]

theorem witness_DecodeOfEncode : Instr.wf (.adcImm 0xFF) = true ∧ Instr.wf (.jmpInd 0xFF 0xFF) = true := by decide

theorem witness_DecodedBytesAreTheEncoding : decode [0x69, 0xFF, 0x00] = .ok (.adcImm 0xFF, [0x00]) := rfl

theorem witness_StepRunsDecodedInstruction :
    let s := sample [0x7D, 0x34, 0x12]
    decode (fetchBytes (atBoundary s)) = .ok (.adcAbsX 0x34 0x12, []) ∧ Instr.wf (.adcAbsX 0x34 0x12) = true ∧
      boundary (atBoundary s) = .run ∧ s.env = [] ∧ s.resetReq = false ∧ s.nmiPending = false ∧ s.irqLine = false :=
  ⟨rfl, rfl, rfl, rfl, rfl, rfl, rfl⟩

theorem witness_UndocumentedOpcodeRefused :
    let s := sample [0xFF]
    boundary (atBoundary s) = .run ∧ busValue (atBoundary s) (atBoundary s).clock (atBoundary s).pc ∈ undocumentedBytes := by
  decide

theorem witness_FaultExactlyWhenBrkIsInterrupted :
    let s := nextOf (step brkThenNmi) brkThenNmi
    (atBoundary s).resetReq = false ∧ (atBoundary s).nmiPending = true ∧ (atBoundary s).afterBrk = true := by decide

theorem witness_BrkMarkSetByTakenBrk :
    step brkThenNmi = .next (nextOf (step brkThenNmi) brkThenNmi) ∧
      (nextOf (step brkThenNmi) brkThenNmi).afterBrk = true ∧
      step (sample [0xEA]) = .next (nextOf (step (sample [0xEA])) (sample [])) ∧
      (nextOf (step (sample [0xEA])) (sample [])).afterBrk = false := ⟨rfl, rfl, rfl, rfl⟩

theorem witness_BoundaryPriority_reset : resetExample.resetReq = true := rfl

theorem witness_BoundaryPriority_fault :
    let s := { nmiExample with afterBrk := true }
    s.resetReq = false ∧ s.nmiPending = true ∧ s.afterBrk = true := ⟨rfl, rfl, rfl⟩

theorem witness_BoundaryPriority_nmi :
    nmiExample.resetReq = false ∧ nmiExample.nmiPending = true ∧ nmiExample.afterBrk = false := ⟨rfl, rfl, rfl⟩

theorem witness_BoundaryPriority_irq :
    irqExample.resetReq = false ∧ irqExample.nmiPending = false ∧ irqExample.irqLine = true ∧ irqExample.p.i = false :=
  ⟨rfl, rfl, rfl, rfl⟩

theorem witness_BoundaryPriority_masked :
    irqMasked.resetReq = false ∧ irqMasked.nmiPending = false ∧ irqMasked.irqLine = true ∧ irqMasked.p.i = true :=
  ⟨rfl, rfl, rfl, rfl⟩

theorem witness_BoundaryPriority_quiet :
    (sample []).resetReq = false ∧ (sample []).nmiPending = false ∧ (sample []).irqLine = false := ⟨rfl, rfl, rfl⟩

theorem witness_IrqWaitsAfterBrk :
    step brkThenNmi = .next (nextOf (step brkThenNmi) brkThenNmi) ∧
      (nextOf (step brkThenNmi) brkThenNmi).afterBrk = true := ⟨rfl, rfl⟩

theorem witness_FetchWordRunsItsInstruction :
    decodeTableWord 8 0xEA = some .nop ∧ decodeTableWord 16 0xFF69 = some (.adcImm 0xFF) ∧
      decodeTableWord 24 0xFFFF4C = some (.jmpAbs 0xFF 0xFF) := ⟨rfl, rfl, rfl⟩

theorem witness_InputsSampledAtBoundary :
    (sample []).env = [] ∧ cliThenIrq.env = ⟨false, false, false⟩ :: [⟨false, false, true⟩] := ⟨rfl, rfl⟩

theorem witness_ResetSequence : (atBoundary resetExample).resetReq = true := rfl

theorem witness_NmiSequence :
    (atBoundary nmiExample).resetReq = false ∧ (atBoundary nmiExample).nmiPending = true ∧
      (atBoundary nmiExample).afterBrk = false := ⟨rfl, rfl, rfl⟩

theorem witness_IrqSequence_taken :
    (atBoundary irqExample).resetReq = false ∧ (atBoundary irqExample).nmiPending = false ∧
      (atBoundary irqExample).irqLine = true ∧ (atBoundary irqExample).p.i = false := ⟨rfl, rfl, rfl, rfl⟩

theorem witness_IrqSequence_masked :
    (atBoundary irqMasked).resetReq = false ∧ (atBoundary irqMasked).nmiPending = false ∧
      (atBoundary irqMasked).irqLine = true ∧ (atBoundary irqMasked).p.i = true ∧
      fetchInstr (atBoundary irqMasked) = .ok .nop := ⟨rfl, rfl, rfl, rfl, rfl⟩

theorem witness_RtiInvertsInterruptEntry :
    let s := sample []
    InterruptKind.nmi ≠ .reset ∧ InterruptKind.irq ≠ .reset ∧ InterruptKind.brk ≠ .reset ∧
      targetAt s.board (stk s.sp) = .memory ∧ targetAt s.board (stk (s.sp - 1)) = .memory ∧
      targetAt s.board (stk (s.sp - 2)) = .memory := by decide

theorem witness_ClockCountsMatchTable :
    (Instr.nop = .brk → (sample []).p.i = false) ∧ (Instr.brk = .brk → (sample []).p.i = false) := by decide

theorem witness_AdcAddsMemoryAndCarry :
    Instr.mnemonic (.adcImm 0xFF) = .ADC ∧ Instr.readOperand? (.adcImm 0xFF) = some (.immediate 0xFF) ∧
      Instr.mnemonic (.adcIndY 0xFF) = .ADC ∧ Instr.readOperand? (.adcIndY 0xFF) = some (.memory (.indirectY 0xFF)) :=
  ⟨rfl, rfl, rfl, rfl⟩

theorem witness_SbcSubtractsMemoryAndBorrow :
    Instr.mnemonic (.sbcImm 0x00) = .SBC ∧ Instr.readOperand? (.sbcImm 0x00) = some (.immediate 0x00) ∧
      Instr.mnemonic (.sbcIndX 0xFF) = .SBC ∧ Instr.readOperand? (.sbcIndX 0xFF) = some (.memory (.indirectX 0xFF)) :=
  ⟨rfl, rfl, rfl, rfl⟩

theorem witness_LogicalInstructions :
    let s := sample []
    Instr.readOperand? (.andImm 0xFF) = some (.immediate 0xFF) ∧
      logical (Instr.mnemonic (.andImm 0xFF)) s.a (datum s (.immediate 0xFF)) = some 0x8F ∧
      logical (Instr.mnemonic (.oraImm 0x70)) s.a (datum s (.immediate 0x70)) = some 0xFF ∧
      logical (Instr.mnemonic (.eorImm 0x8F)) s.a (datum s (.immediate 0x8F)) = some 0x00 := ⟨rfl, rfl, rfl, rfl⟩

theorem witness_ShiftsAndRotates :
    let s := sample []
    Instr.mode .aslA = .accumulator ∧ shifted (Instr.mnemonic .aslA) s.a.toNat s.p.c = some (0x1E, true) ∧
      Instr.memOperand? (.rorZp 0x10) = some (.zeroPage 0x10) ∧
      shifted (Instr.mnemonic (.rorZp 0x10)) (datum s (.memory (.zeroPage 0x10))).toNat s.p.c = some (0xF8, false) :=
  ⟨rfl, rfl, rfl, rfl⟩

theorem witness_CompareInstructions :
    Instr.readOperand? (.cpxImm 0x05) = some (.immediate 0x05) ∧
      compared (Instr.mnemonic (.cpxImm 0x05)) (sample []) = some 0x05 ∧
      compared (Instr.mnemonic (.cmpImm 0x05)) (sample []) = some 0x8F ∧
      compared (Instr.mnemonic (.cpyImm 0x05)) (sample []) = some 0x20 := ⟨rfl, rfl, rfl, rfl⟩

theorem witness_BitTestsMemory :
    Instr.mnemonic (.bitAbs 0x02 0x20) = .BIT ∧
      Instr.readOperand? (.bitAbs 0x02 0x20) = some (.memory (.absolute 0x02 0x20)) := ⟨rfl, rfl⟩

theorem witness_IncrementsOfMemory :
    let s := sample []
    Instr.memOperand? (.incZp 0xFF) = some (.zeroPage 0xFF) ∧
      counted (Instr.mnemonic (.incZp 0xFF)) (datum s (.memory (.zeroPage 0xFF))).toNat = some 1 ∧
      counted (Instr.mnemonic (.decZp 0xFF)) (datum s (.memory (.zeroPage 0xFF))).toNat = some 255 := ⟨rfl, rfl, rfl⟩

theorem witness_FlagInstructions :
    flagged (Instr.mnemonic .sed) (sample []).p = some { (sample []).p with d := true } := rfl

theorem witness_LoadInstructions :
    Instr.readOperand? (.ldaIndY 0x10) = some (.memory (.indirectY 0x10)) ∧ Instr.mnemonic (.ldaIndY 0x10) = .LDA ∧
      Instr.readOperand? (.ldxZpY 0xFF) = some (.memory (.zeroPageY 0xFF)) ∧ Instr.mnemonic (.ldxZpY 0xFF) = .LDX ∧
      Instr.readOperand? (.ldyImm 0x00) = some (.immediate 0x00) ∧ Instr.mnemonic (.ldyImm 0x00) = .LDY :=
  ⟨rfl, rfl, rfl, rfl, rfl, rfl⟩

theorem witness_StoreInstructions :
    Instr.memOperand? (.staAbsX 0xFF 0xFF) = some (.absoluteX 0xFF 0xFF) ∧
      storedReg (Instr.mnemonic (.staAbsX 0xFF 0xFF)) (sample []) = some 0x8F ∧
      storedReg (Instr.mnemonic (.stxZp 0x00)) (sample []) = some 0x05 ∧
      storedReg (Instr.mnemonic (.styZp 0x00)) (sample []) = some 0x20 := ⟨rfl, rfl, rfl, rfl⟩

theorem witness_BranchInstructions :
    branchCond (Instr.mnemonic (.bcs 0x80)) (sample []).p = some true ∧ Instr.operands (.bcs 0x80) = [0x80] ∧
      branchCond (Instr.mnemonic (.beq 0x7F)) (sample []).p = some false ∧ Instr.operands (.beq 0x7F) = [0x7F] :=
  ⟨rfl, rfl, rfl, rfl⟩

theorem witness_RtsResumesAfterJsr :
    let s := sample [0x20, 0x97, 0x55]
    let t := nextOf (exec (.jsr 0x97 0x55) s) s
    exec (.jsr 0x97 0x55) s = .next t ∧ targetAt s.board (stk s.sp) = .memory ∧
      targetAt s.board (stk (s.sp - 1)) = .memory := ⟨rfl, rfl, rfl⟩

theorem witness_BrkTakenWhenNotMasked : (sample [0x00]).p.i = false := rfl

theorem witness_BrkIgnoredWhenMasked : irqMasked.p.i = true := rfl

theorem witness_BusReadAfterWrite :
    let s := boardExample []
    targetAt s.board 0x7FFF = .memory ∧ (0x8000 : Addr) ≠ 0x7FFF ∧ targetAt s.board 0x8000 ≠ .memory ∧
      targetAt s.board 0x2007 ≠ .memory := by decide

theorem witness_PushAndPull : targetAt (sample []).board (stk (sample []).sp) = .memory := rfl

theorem witness_RegistersWrittenOnlyAsListed :
    exec .nop (sample []) = .next (nextOf (exec .nop (sample [])) (sample [])) ∧ writesA .nop = false ∧
      writesX .nop = false ∧ writesY .nop = false ∧ writesS .nop = false := ⟨rfl, rfl, rfl, rfl, rfl⟩

theorem witness_FlagsWrittenOnlyAsListed :
    exec .sei (sample []) = .next (nextOf (exec .sei (sample [])) (sample [])) ∧
      flagsWritten (Instr.mnemonic .sei) = ⟨false, false, false, false, true, false, false⟩ ∧
      (flagsWritten (Instr.mnemonic .cld)).i = false := ⟨rfl, rfl, rfl⟩

theorem witness_PcAdvancesByLength :
    exec (.staAbs 0 2) (sample []) = .next (nextOf (exec (.staAbs 0 2) (sample [])) (sample [])) ∧
      Instr.mnemonic (.staAbs 0 2) ∉ setsPc := ⟨rfl, by decide⟩

theorem witness_OneAccessPerClock : step nmiExample = .next (nextOf (step nmiExample) nmiExample) := rfl

theorem witness_MemoryChangesOnlyByWrites :
    let s := sample [0x85, 0xFF]
    step s = .next (nextOf (step s) s) ∧ Memory.read (nextOf (step s) s).mem 0xFF ≠ Memory.read s.mem 0xFF :=
  ⟨rfl, by decide⟩

theorem witness_StepKeepsPlatform :
    step irqExample = .next (nextOf (step irqExample) irqExample) ∧ (atBoundary irqExample).resetReq = false := ⟨rfl, rfl⟩

theorem witness_DecimalFlagHasNoEffect :
    Instr.mnemonic (.adcImm 0x09) ∉ ([.PHP, .PLP, .RTI, .BRK, .CLD, .SED] : List Mnemonic) ∧
      exec (.adcImm 0x09) (sample []) = .next (nextOf (exec (.adcImm 0x09) (sample [])) (sample [])) :=
  ⟨by decide, rfl⟩

theorem witness_StepKeepsInvariant :
    GoodState (nextOf (step brkThenNmi) brkThenNmi) ∧ GoodState (sample [0x85, 0xFF]) ∧
      step (sample [0x85, 0xFF]) = .next (nextOf (step (sample [0x85, 0xFF])) (sample [])) :=
  ⟨⟨by decide, by decide⟩, ⟨by decide, by decide⟩, rfl⟩

end Sys2Proof.Tests
end

/-! ### One step (00_scope.md R6) -/

namespace Sys2Proof.Proofs

open Sys2Proof.Machine

/-- The fetch is the decoder on the bytes at PC (10_state.md R37). -/
theorem fetchInstr_of_decode {s : State} {i : Instr} {rest : List Byte}
    (hdecode : decode (fetchBytes s) = .ok (i, rest)) : fetchInstr s = .ok i := by
  simp only [fetchInstr, hdecode]

/-- A boundary that takes no interrupt leads to `exec` of the instruction fetched there. -/
theorem step_of_boundary_run {s : State} {i : Instr} (hrun : boundary (atBoundary s) = .run)
    (hfetch : fetchInstr (atBoundary s) = .ok i) : step s = exec i (startInstr (atBoundary s)) := by
  simp only [step, hrun, hfetch]

/-- With no coming change of the lines, the boundary only empties the record of accesses. -/
theorem atBoundary_of_env_nil {s : State} (henv : s.env = []) : atBoundary s = { s with cycles := [] } := by
  simp only [atBoundary, sampleInputs, henv]

/-- With all lines at rest nothing is taken (60_exceptions.md R260). -/
theorem boundary_of_quiet {s : State} (hreset : s.resetReq = false) (hnmi : s.nmiPending = false)
    (hirq : s.irqLine = false) : boundary s = .run := by
  simp [boundary, hreset, hnmi, hirq]

/-- Settles O5: the step is read off `step_of_boundary_run`; lines at rest are the case in which the boundary
is known to be `.run` and its state known to be `s` with no access recorded. -/
theorem stepRunsDecodedInstruction : Obligations.StepRunsDecodedInstruction := by
  intro s i rest hdecode _
  have hfetch : fetchInstr (atBoundary s) = .ok i := fetchInstr_of_decode hdecode
  refine ⟨fun hrun => step_of_boundary_run hrun hfetch, fun henv hreset hnmi hirq => ?_⟩
  have hstate : atBoundary s = { s with cycles := [] } := atBoundary_of_env_nil henv
  have hrun : boundary (atBoundary s) = .run := by
    rw [hstate]; exact boundary_of_quiet hreset hnmi hirq
  calc step s = exec i (startInstr (atBoundary s)) := step_of_boundary_run hrun hfetch
    _ = exec i { s with cycles := [], afterBrk := false } := by rw [hstate]; rfl

end Sys2Proof.Proofs

/-! ### The forms of the instructions -/

namespace Sys2Proof.Proofs

open Sys2Proof.Machine Sys2Proof.Spec Sys2Proof.Laws

/-- What an instruction that reads a datum does with it (41_arithmetic.md, 42_logical.md, 44_branch_bittest.md,
46_compare.md, 48_load_store.md). -/
def readAct : Mnemonic → Option (Byte → State → State)
  | .ADC => some addAct
  | .SBC => some subtractAct
  | .AND => some andAct
  | .ORA => some orAct
  | .EOR => some eorAct
  | .BIT => some bitAct
  | .CMP => some (compareAct State.a)
  | .CPX => some (compareAct State.x)
  | .CPY => some (compareAct State.y)
  | .LDA => some loadA
  | .LDX => some loadX
  | .LDY => some loadY
  | _ => none

/-- How a shift, rotate, INC or DEC computes its result and flags (43_shift_rotate.md, 47_incdec_flagops.md). -/
def modifyFn : Mnemonic → Option (Byte → Status → Byte × Status)
  | .ASL => some asl
  | .LSR => some lsr
  | .ROL => some rol
  | .ROR => some ror
  | .INC => some increment
  | .DEC => some decrement
  | _ => none

/-- What an implied instruction other than the flag instructions does after its dummy read
(47_incdec_flagops.md, 49_transfer_stack_nop.md). -/
def impliedAct : Mnemonic → Option (State → State)
  | .INX => some fun u => loadX (u.x + 1) u
  | .DEX => some fun u => loadX (u.x - 1) u
  | .INY => some fun u => loadY (u.y + 1) u
  | .DEY => some fun u => loadY (u.y - 1) u
  | .TAX => some fun u => loadX u.a u
  | .TXA => some fun u => loadA u.x u
  | .TAY => some fun u => loadY u.a u
  | .TYA => some fun u => loadA u.y u
  | .TSX => some fun u => loadX u.sp u
  | .TXS => some fun u => setSp u.x u
  | .PHA => some fun u => push u.a u
  | .PLA => some fun u => let r := pull (dummyRead (stackAddr u.sp) u); loadA r.1 r.2
  | .PHP => some fun u => push (u.p.toByte ||| 0x10) u
  | .PLP => some fun u => let r := pull (dummyRead (stackAddr u.sp) u); setP (Status.ofByte r.1) r.2
  | .NOP => some id
  | _ => none

/-- What `exec` runs for an instruction, in every state. Where `Shape` leaves open which registers and flags are computed,
a form gives it by the mnemonic, so that a proof over all instructions splits by form and then by mnemonic. -/
inductive ExecForm : Instr → Prop where
  /-- It reads a datum and hands it to its act. -/
  | read {i : Instr} {o : ReadOperand} {act : Byte → State → State} (ho : i.readOperand? = some o)
      (ha : readAct i.mnemonic = some act)
      (he : ∀ s, exec i s = .next (withRead o act s)) : ExecForm i
  /-- It stores a register. -/
  | store {i : Instr} {m : MemOperand} {reg : State → Byte} (hm : i.memOperand? = some m)
      (hr : ∀ s, storedReg i.mnemonic s = some (reg s))
      (he : ∀ s, exec i s = .next (withWrite m reg s)) : ExecForm i
  /-- It modifies a byte of memory. -/
  | modify {i : Instr} {m : MemOperand} {f : Byte → Status → Byte × Status} (hm : i.memOperand? = some m)
      (hf : modifyFn i.mnemonic = some f)
      (he : ∀ s, exec i s = .next (withModify m f s)) : ExecForm i
  /-- It modifies A. -/
  | accumulator {i : Instr} {f : Byte → Status → Byte × Status} (hi : i.mode = .accumulator)
      (hf : modifyFn i.mnemonic = some f)
      (he : ∀ s, exec i s = .next (withAccumulator f s)) : ExecForm i
  /-- It acts on registers or the stack. -/
  | implied {i : Instr} {act : State → State} (hi : i.mode = .implied) (ha : impliedAct i.mnemonic = some act)
      (he : ∀ s, exec i s = .next (withImplied act s)) : ExecForm i
  /-- It sets or clears a flag. -/
  | flag {i : Instr} {g : Status → Status} (hi : i.mode = .implied) (hg : ∀ p, flagged i.mnemonic p = some (g p))
      (he : ∀ s, exec i s = .next (withImplied (fun u => setP (g u.p) u) s)) : ExecForm i
  /-- It branches on a flag. -/
  | branch {i : Instr} {cond : Status → Bool} {off : Byte} (ho : i.operands = [off])
      (hc : ∀ p, branchCond i.mnemonic p = some (cond p))
      (he : ∀ s, exec i s = .next (withBranch cond off s)) : ExecForm i
  /-- It jumps or returns, each in its own way. -/
  | jmpAbs (lo hi : Byte) : ExecForm (.jmpAbs lo hi)
  | jmpInd (lo hi : Byte) : ExecForm (.jmpInd lo hi)
  | jsr (lo hi : Byte) : ExecForm (.jsr lo hi)
  | rts : ExecForm .rts
  | brk : ExecForm .brk
  | rti : ExecForm .rti

/-- Every instruction has one of the forms. -/
theorem exec_form (i : Instr) : ExecForm i := by
  cases i <;>
    first
      | refine .read rfl rfl ?_; exact fun _ => rfl
      | refine .store rfl (fun _ => rfl) ?_; exact fun _ => rfl
      | refine .modify rfl rfl ?_; exact fun _ => rfl
      | refine .accumulator rfl rfl ?_; exact fun _ => rfl
      | refine .implied rfl rfl ?_; exact fun _ => rfl
      | refine .flag rfl (fun _ => rfl) ?_; exact fun _ => rfl
      | refine .branch rfl (fun _ => rfl) ?_; exact fun _ => rfl
      | exact .jmpAbs _ _
      | exact .jmpInd _ _
      | exact .jsr _ _
      | exact .rts
      | exact .brk
      | exact .rti

theorem exec_jmpAbs (lo hi : Byte) (s : State) : exec (.jmpAbs lo hi) s = execJmpAbs lo hi s := rfl
theorem exec_jmpInd (lo hi : Byte) (s : State) : exec (.jmpInd lo hi) s = execJmpInd lo hi s := rfl
theorem exec_jsr (lo hi : Byte) (s : State) : exec (.jsr lo hi) s = execJsr lo hi s := rfl
theorem exec_rts (s : State) : exec .rts s = execRts s := rfl
theorem exec_brk (s : State) : exec .brk s = execBrk s := rfl
theorem exec_rti (s : State) : exec .rti s = execRti s := rfl

/-- BRK is ignored or taken (45_jump_interrupt.md R181). -/
theorem exec_brk_cases {s t : State} (h : exec .brk s = .next t) :
    t = openReads (Config.ignoredBrkReads s.clock) (fetchCycle s) ∨ t = interruptEntry .brk (fetchCycle s) := by
  have hbrk : execBrk s = .next t := h
  simp only [execBrk, Host.Outcome.next.injEq] at hbrk
  split at hbrk
  · exact .inl hbrk.symm
  · exact .inr hbrk.symm

/-- Once its datum is read, such an instruction changes nothing but registers and flags. -/
theorem readAct_regsAndFlags {m : Mnemonic} {act : Byte → State → State} (h : readAct m = some act) (v : Byte)
    (u : State) : RegsAndFlags u (act v u) := by
  cases m <;> cases h <;> exact regsAndFlags_refl _

end Sys2Proof.Proofs

/-! ### Registers and flags are written only as listed (10_state.md R21, R23, R35) -/

namespace Sys2Proof.Proofs

open Sys2Proof.Machine Sys2Proof.Spec Sys2Proof.Laws

/-- The registers that 10_state.md R21 and R23 do not list for the instruction are the same. -/
def RegsKept (i : Instr) (s t : State) : Prop :=
  (writesA i = false → t.a = s.a) ∧ (writesX i = false → t.x = s.x) ∧ (writesY i = false → t.y = s.y) ∧
    (writesS i = false → t.sp = s.sp)

/-- The flags that 10_state.md R35 does not list for the mnemonic are the same. -/
def FlagsKept (m : Mnemonic) (p q : Status) : Prop :=
  let w := flagsWritten m
  (w.n = false → q.n = p.n) ∧ (w.v = false → q.v = p.v) ∧ (w.b = false → q.b = p.b) ∧
    (w.d = false → q.d = p.d) ∧ (w.i = false → q.i = p.i) ∧ (w.z = false → q.z = p.z) ∧
    (w.c = false → q.c = p.c)

theorem regsKept_of_eq {i : Instr} {s t : State} (ha : t.a = s.a) (hx : t.x = s.x) (hy : t.y = s.y)
    (hsp : t.sp = s.sp) : RegsKept i s t :=
  ⟨fun _ => ha, fun _ => hx, fun _ => hy, fun _ => hsp⟩

theorem flagsKept_of_eq {m : Mnemonic} {p q : Status} (h : q = p) : FlagsKept m p q := by
  subst h
  exact ⟨fun _ => rfl, fun _ => rfl, fun _ => rfl, fun _ => rfl, fun _ => rfl, fun _ => rfl, fun _ => rfl⟩

theorem readAct_regsKept {i : Instr} {act : Byte → State → State} (h : readAct i.mnemonic = some act) (v : Byte)
    (u : State) : RegsKept i u (act v u) := by
  generalize hm : i.mnemonic = m at h
  cases m <;> cases h <;>
    simp [RegsKept, writesA, writesX, writesY, writesS, hm, addAct, subtractAct, andAct, orAct, eorAct, bitAct,
      compareAct, loadA, loadX, loadY, putA]

theorem readAct_flagsKept {m : Mnemonic} {act : Byte → State → State} (h : readAct m = some act) (v : Byte)
    (u : State) : FlagsKept m u.p (act v u).p := by
  cases m <;> cases h <;>
    simp [FlagsKept, flagsWritten, addAct, subtractAct, andAct, orAct, eorAct, bitAct, compareAct, loadA, loadX, loadY,
      putA, adc, sbc, Machine.compare, bitTest, setNZ]

theorem modifyFn_flagsKept {m : Mnemonic} {f : Byte → Status → Byte × Status} (h : modifyFn m = some f) (v : Byte)
    (p : Status) : FlagsKept m p (f v p).2 := by
  cases m <;> cases h <;> simp [FlagsKept, flagsWritten, asl, lsr, rol, ror, increment, decrement, setNZ]

theorem impliedAct_regsKept {i : Instr} {act : State → State} (h : impliedAct i.mnemonic = some act)
    (u : State) : RegsKept i u (act u) := by
  generalize hm : i.mnemonic = m at h
  cases m <;> cases h <;>
    simp [RegsKept, writesA, writesX, writesY, writesS, hm, loadA, loadX, loadY]

theorem impliedAct_flagsKept {m : Mnemonic} {act : State → State} (h : impliedAct m = some act)
    (u : State) : FlagsKept m u.p (act u).p := by
  cases m <;> cases h <;> simp [FlagsKept, flagsWritten, loadA, loadX, loadY, setNZ]

theorem flagged_flagsKept {m : Mnemonic} {p q : Status} (h : flagged m p = some q) : FlagsKept m p q := by
  cases m <;> cases h <;> simp [FlagsKept, flagsWritten]

theorem interruptEntry_brk_regs (s : State) :
    (interruptEntry .brk s).a = s.a ∧ (interruptEntry .brk s).x = s.x ∧ (interruptEntry .brk s).y = s.y := by
  simp [interruptEntry, interruptFinish]

/-- A taken BRK sets B and I and no other flag (10_state.md R28, 60_exceptions.md R255). -/
theorem interruptEntry_brk_p (s : State) :
    (interruptEntry .brk s).p = { s.p with b := true, i := true } := by
  simp [interruptEntry, interruptFinish, interruptMarkB]

theorem withBranch_regs (cond : Status → Bool) (off : Byte) (s : State) :
    (withBranch cond off s).a = s.a ∧ (withBranch cond off s).x = s.x ∧ (withBranch cond off s).y = s.y ∧
      (withBranch cond off s).sp = s.sp ∧ (withBranch cond off s).p = s.p := by
  simp only [withBranch]
  split
  · split <;> simp
  · simp

theorem brk_regsKept {s t : State} (h : exec .brk s = .next t) : RegsKept .brk s t := by
  rcases exec_brk_cases h with rfl | rfl
  · exact regsKept_of_eq rfl rfl rfl rfl
  · obtain ⟨ha, hx, hy⟩ := interruptEntry_brk_regs (fetchCycle s)
    exact ⟨fun _ => ha, fun _ => hx, fun _ => hy, nofun⟩

theorem brk_flagsKept {s t : State} (h : exec .brk s = .next t) : FlagsKept .BRK s.p t.p := by
  rcases exec_brk_cases h with rfl | rfl
  · exact flagsKept_of_eq rfl
  · rw [interruptEntry_brk_p]
    simp [FlagsKept, flagsWritten]

/-- The address map, the environment's coming changes, the IRQ line and the requests are the same (10_state.md R39). -/
def SamePlatform (s t : State) : Prop :=
  t.board = s.board ∧ t.env = s.env ∧ t.irqLine = s.irqLine ∧ t.resetReq = s.resetReq ∧ t.nmiPending = s.nmiPending

/-- A jump changes neither A, X, Y nor P nor the platform (45_jump_interrupt.md R175 to R178). -/
def JumpKeeps (s t : State) : Prop := t.a = s.a ∧ t.x = s.x ∧ t.y = s.y ∧ t.p = s.p ∧ SamePlatform s t

theorem jmpAbs_keeps {lo hi : Byte} {s t : State} (h : exec (.jmpAbs lo hi) s = .next t) :
    JumpKeeps s t ∧ t.sp = s.sp := by
  simp only [exec_jmpAbs, execJmpAbs, Host.Outcome.next.injEq] at h
  subst h; simp [JumpKeeps, SamePlatform]

theorem jmpInd_keeps {lo hi : Byte} {s t : State} (h : exec (.jmpInd lo hi) s = .next t) :
    JumpKeeps s t ∧ t.sp = s.sp := by
  simp only [exec_jmpInd, execJmpInd, Host.Outcome.next.injEq] at h
  subst h; simp [JumpKeeps, SamePlatform]

theorem jsr_keeps {lo hi : Byte} {s t : State} (h : exec (.jsr lo hi) s = .next t) : JumpKeeps s t := by
  simp only [exec_jsr, execJsr, Host.Outcome.next.injEq] at h
  subst h; simp [JumpKeeps, SamePlatform]

theorem rts_keeps {s t : State} (h : exec .rts s = .next t) : JumpKeeps s t := by
  simp only [exec_rts, execRts, Host.Outcome.next.injEq] at h
  subst h; simp [JumpKeeps, SamePlatform]

theorem rti_regsKept {s t : State} (h : exec .rti s = .next t) : RegsKept .rti s t := by
  simp only [exec_rti, execRti, Host.Outcome.next.injEq] at h
  subst h
  simp [RegsKept, writesS, Instr.mnemonic, returnFromInterrupt]

theorem exec_regsKept {i : Instr} {s t : State} (h : exec i s = .next t) : RegsKept i s t := by
  cases exec_form i with
  | @read i o act _ ha he =>
    cases (he s).symm.trans h
    have hact := readAct_regsKept ha (readOperand o (fetchCycle s)).1 (readOperand o (fetchCycle s)).2
    simpa [RegsKept, withRead] using hact
  | store _ _ he => cases (he s).symm.trans h; simp [RegsKept, withWrite]
  | modify _ _ he => cases (he s).symm.trans h; simp [RegsKept, withModify]
  | accumulator hmode _ he =>
    cases (he s).symm.trans h
    simp [RegsKept, withAccumulator, withImplied, writesA, hmode]
  | @implied i act _ ha he =>
    cases (he s).symm.trans h
    simpa [RegsKept, withImplied] using impliedAct_regsKept ha (dummyRead (fetchCycle s).pc (fetchCycle s))
  | flag _ _ he => cases (he s).symm.trans h; simp [RegsKept, withImplied]
  | branch _ _ he =>
    cases (he s).symm.trans h
    obtain ⟨ha, hx, hy, hsp, _⟩ := withBranch_regs _ _ s
    exact regsKept_of_eq ha hx hy hsp
  | jmpAbs =>
    obtain ⟨⟨ha, hx, hy, _, _⟩, hsp⟩ := jmpAbs_keeps h
    exact regsKept_of_eq ha hx hy hsp
  | jmpInd =>
    obtain ⟨⟨ha, hx, hy, _, _⟩, hsp⟩ := jmpInd_keeps h
    exact regsKept_of_eq ha hx hy hsp
  | jsr =>
    obtain ⟨ha, hx, hy, _⟩ := jsr_keeps h
    exact ⟨fun _ => ha, fun _ => hx, fun _ => hy, nofun⟩
  | rts =>
    obtain ⟨ha, hx, hy, _⟩ := rts_keeps h
    exact ⟨fun _ => ha, fun _ => hx, fun _ => hy, nofun⟩
  | brk => exact brk_regsKept h
  | rti => exact rti_regsKept h

theorem exec_flagsKept {i : Instr} {s t : State} (h : exec i s = .next t) : FlagsKept i.mnemonic s.p t.p := by
  cases exec_form i with
  | @read i o act _ ha he =>
    cases (he s).symm.trans h
    have hact := readAct_flagsKept ha (readOperand o (fetchCycle s)).1 (readOperand o (fetchCycle s)).2
    simpa [withRead] using hact
  | store _ _ he => cases (he s).symm.trans h; exact flagsKept_of_eq (by simp [withWrite])
  | modify _ hf he => cases (he s).symm.trans h; exact modifyFn_flagsKept hf _ _
  | accumulator _ hf he => cases (he s).symm.trans h; exact modifyFn_flagsKept hf _ _
  | @implied i act _ ha he =>
    cases (he s).symm.trans h
    simpa [withImplied] using impliedAct_flagsKept ha (dummyRead (fetchCycle s).pc (fetchCycle s))
  | flag _ hg he => cases (he s).symm.trans h; exact flagged_flagsKept (hg s.p)
  | branch _ _ he =>
    cases (he s).symm.trans h
    obtain ⟨_, _, _, _, hp⟩ := withBranch_regs _ _ s
    exact flagsKept_of_eq hp
  | jmpAbs => obtain ⟨⟨_, _, _, hp, _⟩, _⟩ := jmpAbs_keeps h; exact flagsKept_of_eq hp
  | jmpInd => obtain ⟨⟨_, _, _, hp, _⟩, _⟩ := jmpInd_keeps h; exact flagsKept_of_eq hp
  | jsr => obtain ⟨_, _, _, hp, _⟩ := jsr_keeps h; exact flagsKept_of_eq hp
  | rts => obtain ⟨_, _, _, hp, _⟩ := rts_keeps h; exact flagsKept_of_eq hp
  | brk => exact brk_flagsKept h
  | rti => simp [FlagsKept, flagsWritten, Instr.mnemonic]

/-- Settles O50: form by form, the registers that each act writes are among those listed for its mnemonic. -/
theorem registersWrittenOnlyAsListed : Obligations.RegistersWrittenOnlyAsListed :=
  fun _ _ _ h => exec_regsKept h

/-- Settles O51: form by form, the flags that each computation changes are among those listed for its mnemonic. -/
theorem flagsWrittenOnlyAsListed : Obligations.FlagsWrittenOnlyAsListed :=
  fun _ _ _ h => exec_flagsKept h

end Sys2Proof.Proofs

/-! ### PC (10_state.md R36) -/

namespace Sys2Proof.Proofs

open Sys2Proof.Machine Sys2Proof.Spec Sys2Proof.Laws

/-- How many bytes of the instruction its datum operand takes (30_encoding.md R91). -/
def datumBytes : ReadOperand → Nat
  | .immediate _ => 1
  | .memory m => operandBytes m

theorem length_of_ofMode {mode : Mode} {bytes : List Byte} {m : MemOperand}
    (h : MemOperand.ofMode mode bytes = some m) :
    mode.length = 1 + operandBytes m := by
  unfold MemOperand.ofMode at h
  split at h <;> cases h <;> rfl

theorem length_of_memOperand {i : Instr} {m : MemOperand} (h : i.memOperand? = some m) :
    i.length = 1 + operandBytes m := length_of_ofMode h

theorem length_of_readOperand {i : Instr} {o : ReadOperand} (h : i.readOperand? = some o) :
    i.length = 1 + datumBytes o := by
  unfold Instr.readOperand? at h
  split at h
  next hmode _ => cases h; rw [Instr.length, hmode]; rfl
  next =>
    obtain ⟨m, hm, rfl⟩ := Option.map_eq_some_iff.mp h
    exact length_of_memOperand hm

theorem readOperand_pc (o : ReadOperand) (s : State) :
    (readOperand o s).2.pc = s.pc + BitVec.ofNat 16 (datumBytes o) := by
  cases o <;> simp [readOperand, datumBytes]

theorem ofNat_toNat_add (w : Addr) (n : Nat) : BitVec.ofNat 16 (w.toNat + n) = w + BitVec.ofNat 16 n := by
  rw [BitVec.ofNat_add, BitVec.ofNat_toNat, BitVec.setWidth_eq]

theorem impliedAct_pc {m : Mnemonic} {act : State → State} (h : impliedAct m = some act) (u : State) :
    (act u).pc = u.pc := by
  cases m <;> cases h <;> simp [loadA, loadX, loadY]

/-- PC after the opcode and `k` operand bytes, modulo 65536. -/
theorem pc_after (w : Addr) (n k : Nat) (h : n = 1 + k) :
    w + 1 + BitVec.ofNat 16 k = BitVec.ofNat 16 (w.toNat + n) := by
  rw [ofNat_toNat_add, h, BitVec.ofNat_add, ← BitVec.add_assoc]; rfl

theorem mem_setsPc_of_branchCond {m : Mnemonic} {p : Status} {r : Bool} (h : branchCond m p = some r) :
    m ∈ setsPc := by
  cases m <;> cases h <;> simp [setsPc]

theorem exec_pc {i : Instr} {s t : State} (h : exec i s = .next t) (hpc : i.mnemonic ∉ setsPc) :
    t.pc = BitVec.ofNat 16 (s.pc.toNat + i.length) := by
  cases exec_form i with
  | @read i o act ho ha he =>
    cases (he s).symm.trans h
    obtain ⟨hact, _⟩ := readAct_regsAndFlags ha (readOperand o (fetchCycle s)).1 (readOperand o (fetchCycle s)).2
    calc (withRead o act s).pc = (readOperand o (fetchCycle s)).2.pc := hact
      _ = s.pc + 1 + BitVec.ofNat 16 (datumBytes o) := by rw [readOperand_pc, fetchCycle_pc]
      _ = _ := pc_after _ _ _ (length_of_readOperand ho)
  | @store i m reg hm _ he =>
    cases (he s).symm.trans h
    calc (withWrite m reg s).pc = s.pc + 1 + BitVec.ofNat 16 (operandBytes m) := by simp [withWrite]
      _ = _ := pc_after _ _ _ (length_of_memOperand hm)
  | @modify i m f hm _ he =>
    cases (he s).symm.trans h
    calc (withModify m f s).pc = s.pc + 1 + BitVec.ofNat 16 (operandBytes m) := by simp [withModify]
      _ = _ := pc_after _ _ _ (length_of_memOperand hm)
  | accumulator hmode _ he =>
    cases (he s).symm.trans h
    simp [Instr.length, hmode, Mode.length, ofNat_toNat_add, withAccumulator, withImplied]
  | @implied i act hmode ha he =>
    cases (he s).symm.trans h
    simp [Instr.length, hmode, Mode.length, ofNat_toNat_add, withImplied, impliedAct_pc ha]
  | flag hmode _ he =>
    cases (he s).symm.trans h
    simp [Instr.length, hmode, Mode.length, ofNat_toNat_add, withImplied]
  | branch _ hc _ => exact absurd (mem_setsPc_of_branchCond (hc s.p)) hpc
  | jmpAbs | jmpInd | jsr | rts | brk | rti => exact absurd (by simp [setsPc, Instr.mnemonic]) hpc

/-- Settles O52: outside the instructions that set PC, each form fetches the opcode and the operand bytes of its mode. -/
theorem pcAdvancesByLength : Obligations.PcAdvancesByLength :=
  fun _ _ _ h hpc => exec_pc h hpc

end Sys2Proof.Proofs

/-! ### The platform (10_state.md R39, 60_exceptions.md R251 to R253) -/

namespace Sys2Proof.Proofs

open Sys2Proof.Machine Sys2Proof.Spec Sys2Proof.Laws

/-- What a boundary leads to and why (60_exceptions.md R260, R266). -/
theorem boundary_cases (s : State) :
    (boundary s = .take .reset ∧ s.resetReq = true) ∨
    (boundary s = .brkLost ∧ s.resetReq = false ∧ s.nmiPending = true ∧ s.afterBrk = true) ∨
    (boundary s = .take .nmi ∧ s.resetReq = false ∧ s.nmiPending = true ∧ s.afterBrk = false) ∨
    (boundary s = .take .irq ∧ s.resetReq = false ∧ s.nmiPending = false ∧ s.irqLine = true ∧ s.p.i = false) ∨
    (boundary s = .run ∧ s.resetReq = false ∧ s.nmiPending = false ∧ (s.irqLine = true → s.p.i = true)) := by
  simp only [boundary]
  cases hreset : s.resetReq
  case true => simp
  case false =>
    cases hnmi : s.nmiPending
    case true => cases hbrk : s.afterBrk <;> simp
    case false => cases hirq : s.irqLine <;> cases hi : s.p.i <;> simp

/-- A step that goes on took an interrupt or ran the instruction fetched. -/
theorem step_next_cases {s t : State} (h : step s = .next t) :
    (∃ kind, boundary (atBoundary s) = .take kind ∧ t = interruptEntry kind (atBoundary s)) ∨
    (boundary (atBoundary s) = .run ∧ ∃ i, fetchInstr (atBoundary s) = .ok i ∧
      exec i (startInstr (atBoundary s)) = .next t) := by
  unfold step at h
  split at h
  next kind hb => cases h; exact .inl ⟨kind, hb, rfl⟩
  next => cases h
  next hb =>
    split at h
    next i hi => exact .inr ⟨hb, i, hi, h⟩
    next => cases h

theorem samePlatform_of_regsAndFlags {s u t : State} (hu : SamePlatform s u) (h : RegsAndFlags u t) :
    SamePlatform s t := by
  obtain ⟨_, _, hboard, hreset, hnmi, hirq, _, henv, _, _⟩ := h
  simpa [SamePlatform, hboard, hreset, hnmi, hirq, henv] using hu

theorem impliedAct_samePlatform {m : Mnemonic} {act : State → State} (h : impliedAct m = some act) (u : State) :
    SamePlatform u (act u) := by
  cases m <;> cases h <;> simp [SamePlatform, loadA, loadX, loadY]

theorem withBranch_samePlatform (cond : Status → Bool) (off : Byte) (s : State) :
    SamePlatform s (withBranch cond off s) := by
  simp only [withBranch]
  split
  · split <;> simp [SamePlatform]
  · simp [SamePlatform]

theorem brk_samePlatform {s t : State} (h : exec .brk s = .next t) : SamePlatform s t := by
  rcases exec_brk_cases h with rfl | rfl
  · simp [SamePlatform]
  · simp [SamePlatform, interruptEntry, interruptFinish]

theorem rti_samePlatform {s t : State} (h : exec .rti s = .next t) : SamePlatform s t := by
  simp only [exec_rti, execRti, Host.Outcome.next.injEq] at h
  subst h
  simp [SamePlatform, returnFromInterrupt]

/-- No instruction touches the address map or a line. -/
theorem exec_samePlatform {i : Instr} {s t : State} (h : exec i s = .next t) : SamePlatform s t := by
  cases exec_form i with
  | @read i o act _ ha he =>
    cases (he s).symm.trans h
    exact samePlatform_of_regsAndFlags (by simp [SamePlatform])
      (readAct_regsAndFlags ha (readOperand o (fetchCycle s)).1 (readOperand o (fetchCycle s)).2)
  | store _ _ he => cases (he s).symm.trans h; simp [SamePlatform, withWrite]
  | modify _ _ he => cases (he s).symm.trans h; simp [SamePlatform, withModify]
  | accumulator _ _ he => cases (he s).symm.trans h; simp [SamePlatform, withAccumulator, withImplied]
  | @implied i act _ ha he =>
    cases (he s).symm.trans h
    simpa [SamePlatform, withImplied] using impliedAct_samePlatform ha (dummyRead (fetchCycle s).pc (fetchCycle s))
  | flag _ _ he => cases (he s).symm.trans h; simp [SamePlatform, withImplied]
  | branch _ _ he => cases (he s).symm.trans h; exact withBranch_samePlatform _ _ s
  | jmpAbs => obtain ⟨⟨_, _, _, _, hplatform⟩, _⟩ := jmpAbs_keeps h; exact hplatform
  | jmpInd => obtain ⟨⟨_, _, _, _, hplatform⟩, _⟩ := jmpInd_keeps h; exact hplatform
  | jsr => obtain ⟨_, _, _, _, hplatform⟩ := jsr_keeps h; exact hplatform
  | rts => obtain ⟨_, _, _, _, hplatform⟩ := rts_keeps h; exact hplatform
  | brk => exact brk_samePlatform h
  | rti => exact rti_samePlatform h

theorem atBoundary_board (s : State) : (atBoundary s).board = s.board := by
  simp only [atBoundary, sampleInputs]
  split <;> rfl

/-- An interrupt that a boundary takes consumes its request, and no request of higher priority is waiting
(60_exceptions.md R251, R252, R260). -/
theorem interruptEntry_requests {s : State} {kind : InterruptKind} (h : boundary s = .take kind) :
    (interruptEntry kind s).resetReq = false ∧ (s.resetReq = false → (interruptEntry kind s).nmiPending = false) := by
  rcases boundary_cases s with
    ⟨hb, hreset⟩ | ⟨hb, _⟩ | ⟨hb, hreset, _⟩ | ⟨hb, hreset, hnmi, _⟩ | ⟨hb, _⟩ <;> cases hb.symm.trans h
  · simp [interruptEntry, interruptFinish, applyResetDraw, hreset]
  · simp [interruptEntry, interruptFinish, hreset]
  · simp [interruptEntry, interruptFinish, hreset, hnmi]

theorem requests_of_run {s : State} (h : boundary s = .run) : s.resetReq = false ∧ s.nmiPending = false := by
  rcases boundary_cases s with ⟨hb, _⟩ | ⟨hb, _⟩ | ⟨hb, _⟩ | ⟨hb, _⟩ | ⟨hb, hreset, hnmi, _⟩ <;> cases hb.symm.trans h
  exact ⟨hreset, hnmi⟩

/-- Settles O55: an interrupt taken consumes its own request, and no instruction touches a line. -/
theorem stepKeepsPlatform : Obligations.StepKeepsPlatform := by
  intro s t h
  have hboard := atBoundary_board s
  rcases step_next_cases h with ⟨kind, htake, rfl⟩ | ⟨hrun, i, _, hexec⟩
  · obtain ⟨hb, henv, hirq⟩ := interruptEntry_platform kind (atBoundary s)
    obtain ⟨hreset, hnmi⟩ := interruptEntry_requests htake
    exact ⟨hb.trans hboard, henv, hirq, hreset, hnmi⟩
  · obtain ⟨hb, henv, hirq, hreset, hnmi⟩ := exec_samePlatform hexec
    obtain ⟨hreset', hnmi'⟩ := requests_of_run hrun
    exact ⟨hb.trans hboard, henv, hirq, hreset.trans hreset', fun _ => hnmi.trans hnmi'⟩

end Sys2Proof.Proofs

/-! ### The flags B and D (10_state.md R28, R29, R31) -/

namespace Sys2Proof.Proofs

open Sys2Proof.Machine Sys2Proof.Spec Sys2Proof.Laws

/-- P with each of B and D replaced by a function of itself: the change of both O56 (a value for B) and O57 (one for D). -/
def mapBD (f g : Bool → Bool) (p : Status) : Status := { p with b := f p.b, d := g p.d }

/-- The state with its P so changed. -/
def onBD (f g : Bool → Bool) (s : State) : State := setP (mapBD f g s.p) s

/-- The instructions that read or write B or D, by mnemonic (10_state.md R28, R31, R35). -/
def usesBD : List Mnemonic := [.PHP, .PLP, .RTI, .BRK, .CLD, .SED]

theorem withB_eq_onBD (b : Bool) (s : State) : withB b s = onBD (fun _ => b) id s := rfl

theorem withD_eq_onBD (d : Bool) (s : State) : withD d s = onBD id (fun _ => d) s := rfl

theorem readAct_onBD {m : Mnemonic} {act : Byte → State → State} (h : readAct m = some act) (f g : Bool → Bool)
    (v : Byte) (u : State) : act v (onBD f g u) = onBD f g (act v u) := by
  cases m <;> cases h <;> rfl

theorem storedReg_setP (m : Mnemonic) (p : Status) (s : State) : storedReg m (setP p s) = storedReg m s := by
  cases m <;> rfl

theorem modifyFn_mapBD {m : Mnemonic} {fn : Byte → Status → Byte × Status} (h : modifyFn m = some fn)
    (f g : Bool → Bool) (v : Byte) (p : Status) : fn v (mapBD f g p) = ((fn v p).1, mapBD f g (fn v p).2) := by
  cases m <;> cases h <;> rfl

theorem branchCond_mapBD (m : Mnemonic) (f g : Bool → Bool) (p : Status) :
    branchCond m (mapBD f g p) = branchCond m p := by
  cases m <;> rfl

theorem flagged_mapBD {m : Mnemonic} (hm : m ∉ usesBD) (f g : Bool → Bool) (p : Status) :
    flagged m (mapBD f g p) = (flagged m p).map (mapBD f g) := by
  cases m
  case CLD | SED => exact absurd (by simp [usesBD]) hm
  all_goals rfl

theorem impliedAct_onBD {m : Mnemonic} {act : State → State} (h : impliedAct m = some act) (hm : m ∉ usesBD)
    (f g : Bool → Bool) (u : State) : act (onBD f g u) = onBD f g (act u) := by
  cases m <;> cases h
  case PHA => simp only [onBD, push_setP, push_p, setP_a]
  case PHP | PLP => exact absurd (by simp [usesBD]) hm
  all_goals rfl

theorem withRead_onBD {m : Mnemonic} {act : Byte → State → State} (h : readAct m = some act) (f g : Bool → Bool)
    (o : ReadOperand) (s : State) : withRead o act (onBD f g s) = onBD f g (withRead o act s) := by
  have hread := readAct_onBD h f g (readOperand o (fetchCycle s)).1 (readOperand o (fetchCycle s)).2
  simpa [withRead, onBD, fetchCycle_setP, readOperand_setP] using hread

theorem withWrite_setP (m : MemOperand) {reg : State → Byte} (hreg : ∀ q u, reg (setP q u) = reg u) (p : Status)
    (s : State) : withWrite m reg (setP p s) = setP p (withWrite m reg s) := by
  simp only [withWrite, fetchCycle_setP, resolve_setP, hreg, memWrite_setP]

theorem withModify_onBD {m : Mnemonic} {fn : Byte → Status → Byte × Status} (h : modifyFn m = some fn)
    (f g : Bool → Bool) (o : MemOperand) (s : State) :
    withModify o fn (onBD f g s) = onBD f g (withModify o fn s) := by
  simp only [withModify, onBD, fetchCycle_setP, resolve_setP, memRead_setP, setP_p, modifyFn_mapBD h, dummyWrite_setP,
    memWrite_setP, setP_setP]

theorem withImplied_onBD {act : State → State} {f g : Bool → Bool} (h : ∀ u, act (onBD f g u) = onBD f g (act u))
    (s : State) : withImplied act (onBD f g s) = onBD f g (withImplied act s) :=
  h (dummyRead (fetchCycle s).pc (fetchCycle s))

theorem withBranch_setP {cond : Status → Bool} {p : Status} {s : State} (h : cond p = cond s.p) (off : Byte) :
    withBranch cond off (setP p s) = setP p (withBranch cond off s) := by
  by_cases hcond : cond s.p = true <;>
    by_cases hcross : branchCrosses (fetchCycle (fetchCycle s)).pc (addSx (fetchCycle (fetchCycle s)).pc off) = true <;>
    simp only [withBranch, fetchCycle_setP, dummyRead_setP, setPc_setP, setP_p, setP_pc, fetchCycle_p, h, hcond, hcross,
      Bool.false_eq_true, reduceIte]

theorem jmpAbs_setP {lo hi : Byte} {s t : State} (p : Status) (h : exec (.jmpAbs lo hi) s = .next t) :
    exec (.jmpAbs lo hi) (setP p s) = .next (setP p t) := by
  cases h; rfl

theorem jmpInd_setP {lo hi : Byte} {s t : State} (p : Status) (h : exec (.jmpInd lo hi) s = .next t) :
    exec (.jmpInd lo hi) (setP p s) = .next (setP p t) := by
  simp only [exec_jmpInd, execJmpInd, Host.Outcome.next.injEq] at h ⊢
  subst h
  simp only [fetchCycle_setP, memRead_setP, setPc_setP]

theorem jsr_setP {lo hi : Byte} {s t : State} (p : Status) (h : exec (.jsr lo hi) s = .next t) :
    exec (.jsr lo hi) (setP p s) = .next (setP p t) := by
  simp only [exec_jsr, execJsr, Host.Outcome.next.injEq] at h ⊢
  subst h
  simp only [fetchCycle_setP, memRead_setP, setPc_setP, push_setP, dummyRead_setP, setP_pc, setP_sp]

theorem rts_setP {s t : State} (p : Status) (h : exec .rts s = .next t) :
    exec .rts (setP p s) = .next (setP p t) := by
  simp only [exec_rts, execRts, Host.Outcome.next.injEq] at h ⊢
  subst h
  simp only [fetchCycle_setP, setPc_setP, pull_setP, dummyRead_setP, setP_pc, setP_sp]

/-- Every other instruction commutes with the change: it neither reads nor writes B or D (10_state.md R29, R31). -/
theorem exec_onBD {i : Instr} {s t : State} (hi : i.mnemonic ∉ usesBD) (f g : Bool → Bool)
    (h : exec i s = .next t) : exec i (onBD f g s) = .next (onBD f g t) := by
  cases exec_form i with
  | @read i o act _ ha he =>
    cases (he s).symm.trans h
    rw [he, withRead_onBD ha]
  | @store i m reg _ hr he =>
    cases (he s).symm.trans h
    have hreg : ∀ q u, reg (setP q u) = reg u := fun q u =>
      Option.some.inj (by rw [← hr, storedReg_setP, hr])
    have hp : (withWrite m reg s).p = s.p := by simp [withWrite]
    rw [he, onBD, onBD, hp, withWrite_setP m hreg]
  | @modify i m fn _ hf he =>
    cases (he s).symm.trans h
    rw [he, withModify_onBD hf]
  | @accumulator i fn _ hf he =>
    cases (he s).symm.trans h
    rw [he, withAccumulator, withImplied_onBD, withAccumulator]
    intro u
    simp only [onBD, setP_p, setP_a, modifyFn_mapBD hf]
    rfl
  | @implied i act _ ha he =>
    cases (he s).symm.trans h
    rw [he, withImplied_onBD (impliedAct_onBD ha hi f g)]
  | @flag i fl _ hg he =>
    cases (he s).symm.trans h
    have hfl : ∀ u : State, fl (mapBD f g u.p) = mapBD f g (fl u.p) := fun u =>
      Option.some.inj (by rw [← hg, flagged_mapBD hi, hg, Option.map_some])
    rw [he, withImplied_onBD]
    intro u
    simp only [onBD, setP_p, setP_setP, hfl]
  | @branch i cond off _ hc he =>
    cases (he s).symm.trans h
    have hcond : cond (mapBD f g s.p) = cond s.p :=
      Option.some.inj (by rw [← hc, branchCond_mapBD, hc])
    obtain ⟨_, _, _, _, hp⟩ := withBranch_regs cond off s
    rw [he, onBD, onBD, hp, withBranch_setP hcond]
  | jmpAbs =>
    obtain ⟨⟨_, _, _, hp, _⟩, _⟩ := jmpAbs_keeps h
    rw [onBD, onBD, hp, jmpAbs_setP _ h]
  | jmpInd =>
    obtain ⟨⟨_, _, _, hp, _⟩, _⟩ := jmpInd_keeps h
    rw [onBD, onBD, hp, jmpInd_setP _ h]
  | jsr =>
    obtain ⟨_, _, _, hp, _⟩ := jsr_keeps h
    rw [onBD, onBD, hp, jsr_setP _ h]
  | rts =>
    obtain ⟨_, _, _, hp, _⟩ := rts_keeps h
    rw [onBD, onBD, hp, rts_setP _ h]
  | brk => exact absurd (by simp [usesBD, Instr.mnemonic]) hi
  | rti => exact absurd (by simp [usesBD, Instr.mnemonic]) hi

/-- Settles O57: setting D is such a change of P, and the instructions left out are those of `usesBD`. -/
theorem decimalFlagHasNoEffect : Obligations.DecimalFlagHasNoEffect := by
  intro i s t d hi h
  rw [withD_eq_onBD, withD_eq_onBD]
  exact exec_onBD hi id (fun _ => d) h

end Sys2Proof.Proofs

/-! ### The stored B is not observable (10_state.md R29) -/

namespace Sys2Proof.Proofs

open Sys2Proof.Machine Sys2Proof.Spec Sys2Proof.Laws

theorem atBoundary_withB (b : Bool) (s : State) : atBoundary (withB b s) = withB b (atBoundary s) := by
  obtain ⟨_, _, _, _, _, _, _, _, _, _, _, _, env, _, _⟩ := s
  cases env <;> rfl

theorem boundary_withB (b : Bool) (s : State) : boundary (withB b s) = boundary s := rfl

theorem fetchInstr_withB (b : Bool) (s : State) : fetchInstr (withB b s) = fetchInstr s := rfl

theorem startInstr_withB (b : Bool) (s : State) : startInstr (withB b s) = withB b (startInstr s) := rfl

/-- No interrupt sees the stored B: NMI, IRQ and BRK write it before P is pushed, RESET draws it (10_state.md R28). -/
theorem interruptEntry_withB (k : InterruptKind) (b : Bool) (s : State) :
    interruptEntry k (withB b s) = interruptEntry k s := by
  cases k <;>
    simp [withB_eq_onBD, onBD, mapBD, interruptEntry, interruptLead_setP, interruptMarkB, interruptSave, dummyRead_setP,
      setP_setP, push_setP, loadVector_setP, interruptFinish, applyResetDraw]

/-- The second outcome is the first one but for the stored B of a next state: `AgreeButB` in the form in which a step can
be followed by another. -/
def WithSomeB : Host.Outcome State Fault Refusal → Host.Outcome State Fault Refusal → Prop
  | .next t, o => ∃ b, o = .next (withB b t)
  | .fault r, o => o = .fault r
  | .refused r, o => o = .refused r

theorem withSomeB_refl (o : Host.Outcome State Fault Refusal) : WithSomeB o o := by
  cases o with
  | next t => exact ⟨t.p.b, rfl⟩
  | fault => rfl
  | refused => rfl

/-- Every form ends in a next state. -/
theorem exec_completes (i : Instr) (s : State) : ∃ t, exec i s = .next t := by
  cases exec_form i with
  | read _ _ he | store _ _ he | modify _ _ he | accumulator _ _ he | implied _ _ he | flag _ _ he | branch _ _ he =>
    exact ⟨_, he s⟩
  | jmpAbs | jmpInd | jsr | rts | brk | rti => exact ⟨_, rfl⟩

theorem exec_implied_withB {i : Instr} {act : State → State} (he : ∀ s, exec i s = .next (withImplied act s))
    {b : Bool} (hact : ∀ u, act (withB b u) = withB b (act u)) (s : State) :
    WithSomeB (exec i s) (exec i (withB b s)) := by
  rw [he, he, withB_eq_onBD, withImplied_onBD hact]
  exact ⟨b, rfl⟩

/-- PHP pushes B as 1 whatever is stored (49_transfer_stack_nop.md R238). -/
theorem exec_php_withB (b : Bool) (s : State) : WithSomeB (exec .php s) (exec .php (withB b s)) := by
  refine exec_implied_withB (fun _ => rfl) (fun u => ?_) s
  simp only [withB_eq_onBD, onBD, push_setP, push_p, setP_p, toByte_or_break, mapBD, id]

/-- PLP loads all flags, B among them (49_transfer_stack_nop.md R239). -/
theorem exec_plp_withB (b : Bool) (s : State) : WithSomeB (exec .plp s) (exec .plp (withB b s)) := by
  have hsame : exec .plp (withB b s) = exec .plp s := rfl
  rw [hsame]
  exact withSomeB_refl _

/-- RTI loads all flags, B among them (45_jump_interrupt.md R182). -/
theorem exec_rti_withB (b : Bool) (s : State) : WithSomeB (exec .rti s) (exec .rti (withB b s)) := by
  have hsame : exec .rti (withB b s) = exec .rti s := by
    simp only [exec_rti, execRti, returnFromInterrupt, withB_eq_onBD, onBD, fetchCycle_setP, setP_pc, setP_sp,
      dummyRead_setP, pull_setP, setP_setP]
  rw [hsame]
  exact withSomeB_refl _

/-- An ignored BRK keeps B, a taken one sets it before P is pushed (45_jump_interrupt.md R181). -/
theorem exec_brk_withB (b : Bool) (s : State) : WithSomeB (exec .brk s) (exec .brk (withB b s)) := by
  have hfetch : fetchCycle (withB b s) = withB b (fetchCycle s) := rfl
  have hi : (withB b s).p.i = s.p.i := rfl
  have hclock : (withB b s).clock = s.clock := rfl
  have hopen : ∀ l u, openReads l (withB b u) = withB b (openReads l u) := fun l u => openReads_setP l _ u
  simp only [exec_brk, execBrk, hfetch, hi, hclock, hopen, interruptEntry_withB]
  split
  · exact ⟨b, rfl⟩
  · exact withSomeB_refl _

theorem eq_of_mnemonic_mem_usesBD {i : Instr} (h : i.mnemonic ∈ usesBD) :
    i = .php ∨ i = .plp ∨ i = .rti ∨ i = .brk ∨ i = .cld ∨ i = .sed := by
  cases i <;> simp [usesBD, Instr.mnemonic] at h ⊢

/-- No instruction shows the stored B or depends on it (10_state.md R29). -/
theorem exec_withB (i : Instr) (b : Bool) (s : State) : WithSomeB (exec i s) (exec i (withB b s)) := by
  by_cases hi : i.mnemonic ∈ usesBD
  · rcases eq_of_mnemonic_mem_usesBD hi with rfl | rfl | rfl | rfl | rfl | rfl
    · exact exec_php_withB b s
    · exact exec_plp_withB b s
    · exact exec_rti_withB b s
    · exact exec_brk_withB b s
    · refine exec_implied_withB (fun _ => rfl) (fun _ => ?_) s; rfl
    · refine exec_implied_withB (fun _ => rfl) (fun _ => ?_) s; rfl
  · obtain ⟨t, ht⟩ := exec_completes i s
    rw [ht, withB_eq_onBD, exec_onBD hi _ _ ht]
    exact ⟨b, rfl⟩

/-- A step neither shows the stored B nor depends on it. -/
theorem step_withB (b : Bool) (s : State) : WithSomeB (step s) (step (withB b s)) := by
  simp only [step, atBoundary_withB, boundary_withB, fetchInstr_withB, startInstr_withB]
  split
  · rw [interruptEntry_withB]; exact withSomeB_refl _
  · rfl
  · split
    · exact exec_withB _ b _
    · rfl

/-- Settles O56, by induction on the number of steps: `step_withB` gives two next states that differ in B alone, so the
hypothesis holds of them, with the B that the step left. -/
theorem storedBreakFlagUnobservable : Obligations.StoredBreakFlagUnobservable := by
  intro n
  induction n with
  | zero => intro s b; rfl
  | succ n ih =>
    intro s b
    have hstep := step_withB b s
    cases h : step s with
    | next t =>
      rw [h] at hstep
      obtain ⟨b', hb'⟩ := hstep
      rw [run_next n s t h, run_next n _ _ hb']
      exact ih t b'
    | fault r =>
      rw [h] at hstep
      rw [run_fault n s r h, run_fault n _ r hstep]
      rfl
    | refused r =>
      rw [h] at hstep
      rw [run_refused n s r h, run_refused n _ r hstep]
      rfl

end Sys2Proof.Proofs

/-! ### The reset state (10_state.md R40) -/

namespace Sys2Proof.Proofs

open Sys2Proof.Machine Sys2Proof.Spec Sys2Proof.Laws

/-- Settles O46: `State.reset` is a closed term and its vector is read from an empty memory. -/
theorem resetStateAsSpecified : Obligations.ResetStateAsSpecified := ⟨by decide, rfl, by decide, rfl⟩

/-- Settles O47: with no region in the map and no cell in memory every address is plain memory that reads $00. -/
theorem resetValuesTheModelChose : Obligations.ResetValuesTheModelChose :=
  ⟨rfl, rfl, rfl, rfl, by decide, rfl, rfl, fun _ => ⟨rfl, rfl⟩⟩

/-- Settles O59, by `wf_reset`; no BRK is marked. -/
theorem resetHasInvariant : Obligations.ResetHasInvariant := ⟨wf_reset, nofun⟩

end Sys2Proof.Proofs

/-! ### The bus and the stack (20_memory.md R64, R65, R68, R69) -/

namespace Sys2Proof.Proofs

open Sys2Proof.Machine Sys2Proof.Spec Sys2Proof.Laws

/-- What memory holds after one bus write, in the statements' terms. -/
theorem read_memWrite (a : Addr) (v : Byte) (s : State) (n : Nat) :
    Memory.read (memWrite a v s).mem n = stored s [(a, v)] n := by
  rw [memWrite_mem]
  by_cases hplain : targetAt s.board a = .memory
  · simp [stored, hplain, read_write]
  · simp [stored, hplain]

/-- Settles O44: `busValue_memWrite` gives what the bus reads afterwards, `read_memWrite` what memory holds. -/
theorem busReadAfterWrite : Obligations.BusReadAfterWrite := by
  refine fun a v s => ⟨fun hplain n => ?_, fun n b hb => ?_, fun hother n => ?_⟩
  · rw [busValue_memWrite, if_pos ⟨rfl, hplain⟩]
  · rw [busValue_memWrite, if_neg fun h => hb h.1]
  · rw [read_memWrite, stored, if_neg fun h => hother h.2, stored]

/-- The model's stack address is the spec's $0100 + S (10_state.md R23). -/
theorem stackAddr_eq_stk (v : Byte) : stackAddr v = stk v := by
  apply BitVec.eq_of_toNat_eq
  have hv : v.toNat < 2 ^ 8 := v.isLt
  rw [stackAddr, mkAddr, BitVec.toNat_append, ← Nat.shiftLeft_add_eq_or_of_lt hv, stk, BitVec.toNat_ofNat]
  have hhigh : (0x01 : Byte).toNat <<< 8 = 256 := rfl
  omega

/-- The bus after a push reads as after its write: S is no part of what answers. -/
theorem busValue_push (v : Byte) (s : State) (n : Nat) (b : Addr) :
    busValue (push v s) n b = busValue (memWrite (stackAddr s.sp) v s) n b := by
  rw [push, busValue_setSp]

/-- Settles O45: a push is one bus write at S, a pull one bus read at S + 1; after a push S + 1 is the old S modulo 256,
so the pull reads the address just written. -/
theorem pushAndPull : Obligations.PushAndPull := by
  intro v s
  have hsp : (push v s).sp + 1 = s.sp := by rw [push_sp, BitVec.sub_add_cancel]
  refine ⟨push_sp v s, fun n => ?_, pull_sp s, ?_, fun _ => by rw [pull_mem], fun hplain => ⟨?_, ?_⟩⟩
  · rw [push, setSp_mem, read_memWrite, stackAddr_eq_stk]
  · rw [pull_value, stackAddr_eq_stk]
  · rw [← stackAddr_eq_stk] at hplain
    rw [pull_value, hsp, busValue_push, busValue_memWrite, if_pos ⟨rfl, hplain⟩]
  · rw [pull_sp, hsp]

end Sys2Proof.Proofs

/-! ### The accesses of a step account for its clocks and its memory (20_memory.md R64 to R67) -/

namespace Sys2Proof.Proofs

open Sys2Proof.Machine Sys2Proof.Spec Sys2Proof.Laws

/-- Memory after one recorded access: a write stores where plain memory answers, nothing else stores. -/
def storeOf (board : List Region) (m : Memory) (c : BusCycle) : Memory :=
  if c.kind = .write ∧ targetAt board c.addr = .memory then Memory.write m c.addr.toNat c.data else m

theorem storeOf_of_kind_ne_write {c : BusCycle} (h : c.kind ≠ .write) (board : List Region) (m : Memory) :
    storeOf board m c = m := if_neg fun hc => h hc.1

theorem length_dummyReadCycles (s : State) (n : Nat) (addrs : List Addr) :
    (dummyReadCycles s n addrs).length = addrs.length := by
  induction addrs generalizing n with
  | nil => rfl
  | cons a rest ih => simp only [dummyReadCycles, List.length_cons, ih]

theorem foldl_dummyReadCycles (s : State) (n : Nat) (addrs : List Addr) (board : List Region) (m : Memory) :
    (dummyReadCycles s n addrs).foldl (storeOf board) m = m := by
  induction addrs generalizing n with
  | nil => rfl
  | cons a rest ih => rw [dummyReadCycles, List.foldl_cons, storeOf_of_kind_ne_write (by simp), ih]

/-- `t` comes from `s` by bus accesses: the board is the same, each access took one clock, and replaying the recorded
accesses on the memory of `s` gives the memory of `t`. Of the registers, P and the lines it says nothing. -/
def ThroughBus (s t : State) : Prop :=
  ∃ l : List BusCycle, t.board = s.board ∧ t.cycles = s.cycles ++ l ∧ t.clock = s.clock + l.length ∧
    t.mem = l.foldl (storeOf s.board) s.mem

namespace ThroughBus

theorem refl (s : State) : ThroughBus s s := ⟨[], rfl, (List.append_nil _).symm, rfl, rfl⟩

theorem trans {s u t : State} (hu : ThroughBus s u) (ht : ThroughBus u t) : ThroughBus s t := by
  obtain ⟨l, hboard, hcycles, hclock, hmem⟩ := hu
  obtain ⟨l', hboard', hcycles', hclock', hmem'⟩ := ht
  refine ⟨l ++ l', hboard'.trans hboard, ?_, ?_, ?_⟩
  · rw [hcycles', hcycles, List.append_assoc]
  · rw [hclock', hclock, List.length_append, Nat.add_assoc]
  · rw [hmem', hboard, hmem, List.foldl_append]

variable {s u : State}

/-! What makes no access -/

theorem then_setA (h : ThroughBus s u) (v : Byte) : ThroughBus s (setA v u) := h
theorem then_setSp (h : ThroughBus s u) (v : Byte) : ThroughBus s (setSp v u) := h
theorem then_setPc (h : ThroughBus s u) (v : Addr) : ThroughBus s (setPc v u) := h
theorem then_setP (h : ThroughBus s u) (p : Status) : ThroughBus s (setP p u) := h

theorem then_regsAndFlags {t : State} (h : ThroughBus s u) (ht : RegsAndFlags u t) : ThroughBus s t := by
  obtain ⟨_, hmem, hboard, _, _, _, _, _, hclock, hcycles⟩ := ht
  simpa only [ThroughBus, hmem, hboard, hclock, hcycles] using h

theorem then_interruptMarkB (h : ThroughBus s u) (k : InterruptKind) : ThroughBus s (interruptMarkB k u) := by
  simpa only [ThroughBus, interruptMarkB_mem, interruptMarkB_board, interruptMarkB_clock, interruptMarkB_cycles] using h

theorem then_interruptFinish (h : ThroughBus s u) (k : InterruptKind) (draw : Config.ResetDraw) :
    ThroughBus s (interruptFinish k draw u) := by
  cases k <;> exact h

/-! What makes accesses -/

theorem then_access {t : State} (h : ThroughBus s u) (c : BusCycle) (hboard : t.board = u.board)
    (hcycles : t.cycles = u.cycles ++ [c]) (hclock : t.clock = u.clock + 1) (hmem : t.mem = storeOf u.board u.mem c) :
    ThroughBus s t :=
  h.trans ⟨[c], hboard, hcycles, hclock, hmem⟩

theorem then_memRead (h : ThroughBus s u) (a : Addr) : ThroughBus s (memRead a u).2 :=
  h.then_access ⟨.read, a, busValue u u.clock a⟩ rfl rfl rfl (storeOf_of_kind_ne_write (by simp) _ _).symm

theorem then_dummyRead (h : ThroughBus s u) (a : Addr) : ThroughBus s (dummyRead a u) :=
  h.then_access ⟨.dummyRead, a, busValue u u.clock a⟩ rfl rfl rfl (storeOf_of_kind_ne_write (by simp) _ _).symm

theorem then_dummyWrite (h : ThroughBus s u) (a : Addr) : ThroughBus s (dummyWrite a u) :=
  h.then_access ⟨.dummyWrite, a, Config.garbageByte u.clock⟩ rfl rfl rfl (storeOf_of_kind_ne_write (by simp) _ _).symm

theorem then_memWrite (h : ThroughBus s u) (a : Addr) (v : Byte) : ThroughBus s (memWrite a v u) := by
  refine h.then_access ⟨.write, a, v⟩ (memWrite_board a v u) (memWrite_cycles a v u) (memWrite_clock a v u) ?_
  simp only [memWrite_mem, storeOf, true_and]

theorem then_fetchCycle (h : ThroughBus s u) : ThroughBus s (fetchCycle u) := (h.then_memRead u.pc).then_setPc _

theorem then_push (h : ThroughBus s u) (v : Byte) : ThroughBus s (push v u) := (h.then_memWrite _ v).then_setSp _

theorem then_pull (h : ThroughBus s u) : ThroughBus s (pull u).2 := (h.then_setSp (u.sp + 1)).then_memRead _

/-- An extra dummy read, made on a page crossing (40_addressing_modes.md R123). -/
theorem then_dummyReadIf (h : ThroughBus s u) (cross : Bool) (a : Addr) :
    ThroughBus s (if cross then dummyRead a u else u) := by
  split
  · exact h.then_dummyRead a
  · exact h

theorem then_openReads (h : ThroughBus s u) (addrs : List Addr) : ThroughBus s (openReads addrs u) :=
  h.trans ⟨dummyReadCycles u u.clock addrs, rfl, rfl, by rw [openReads_clock, length_dummyReadCycles],
    (foldl_dummyReadCycles u u.clock addrs u.board u.mem).symm⟩

theorem then_resolve (h : ThroughBus s u) (m : MemOperand) : ThroughBus s (resolve m u).2 := by
  cases m with
  | zeroPage => exact h.then_fetchCycle
  | zeroPageX | zeroPageY => exact h.then_fetchCycle.then_dummyRead _
  | absolute => exact h.then_fetchCycle.then_fetchCycle
  | absoluteX | absoluteY => exact h.then_fetchCycle.then_fetchCycle.then_dummyReadIf _ _
  | indirectX => exact ((h.then_fetchCycle.then_dummyRead _).then_memRead _).then_memRead _
  | indirectY => exact ((h.then_fetchCycle.then_memRead _).then_memRead _).then_dummyReadIf _ _

theorem then_readOperand (h : ThroughBus s u) (o : ReadOperand) : ThroughBus s (readOperand o u).2 := by
  cases o with
  | immediate => exact h.then_fetchCycle
  | memory m => exact (h.then_resolve m).then_memRead _

/-! Interrupts -/

theorem then_interruptLead (h : ThroughBus s u) (k : InterruptKind) : ThroughBus s (interruptLead k u) := by
  cases k with
  | brk => exact (h.then_dummyRead _).then_setPc _
  | reset | nmi | irq => exact (h.then_dummyRead _).then_dummyRead _

theorem then_interruptSave (h : ThroughBus s u) (k : InterruptKind) : ThroughBus s (interruptSave k u) := by
  cases k with
  | reset => exact ((h.then_dummyRead _).then_dummyRead _).then_dummyRead _
  | nmi | irq | brk => exact ((h.then_push _).then_push _).then_push _

theorem then_loadVector (h : ThroughBus s u) (k : InterruptKind) : ThroughBus s (loadVector k u) :=
  ((h.then_memRead _).then_memRead _).then_setPc _

theorem then_interruptEntry (h : ThroughBus s u) (k : InterruptKind) : ThroughBus s (interruptEntry k u) :=
  have hsaved := ((h.then_interruptLead k).then_interruptMarkB k).then_interruptSave k
  ((hsaved.then_setP _).then_loadVector k).then_interruptFinish k _

theorem then_returnFromInterrupt (h : ThroughBus s u) : ThroughBus s (returnFromInterrupt u) :=
  have hstatus := ((h.then_dummyRead u.pc).then_dummyRead (stackAddr u.sp)).then_pull
  (hstatus.then_setP _).then_pull.then_pull.then_setPc _

/-! The forms of the instructions -/

theorem then_withBranch (h : ThroughBus s u) (cond : Status → Bool) (off : Byte) :
    ThroughBus s (withBranch cond off u) := by
  have hfetched := h.then_fetchCycle.then_fetchCycle
  simp only [withBranch]
  split
  · exact ((hfetched.then_dummyRead _).then_dummyReadIf _ _).then_setPc _
  · exact hfetched

theorem then_impliedAct {m : Mnemonic} {act : State → State} (h : ThroughBus s u) (ha : impliedAct m = some act) :
    ThroughBus s (act u) := by
  cases m <;> cases ha
  case PHA | PHP => exact h.then_push _
  case PLA | PLP => exact (h.then_dummyRead _).then_pull
  all_goals exact h

end ThroughBus

/-- Every instruction does what it does to memory and the clock by bus accesses. -/
theorem exec_throughBus {i : Instr} {s t : State} (h : exec i s = .next t) : ThroughBus s t := by
  have hopcode : ThroughBus s (fetchCycle s) := (ThroughBus.refl s).then_fetchCycle
  cases exec_form i with
  | @read i o act _ ha he =>
    cases (he s).symm.trans h
    exact (hopcode.then_readOperand o).then_regsAndFlags (readAct_regsAndFlags ha _ _)
  | @store i m reg _ _ he =>
    cases (he s).symm.trans h
    exact (hopcode.then_resolve m).then_memWrite _ _
  | @modify i m f _ _ he =>
    cases (he s).symm.trans h
    exact ((((hopcode.then_resolve m).then_memRead _).then_dummyWrite _).then_memWrite _ _).then_setP _
  | accumulator _ _ he =>
    cases (he s).symm.trans h
    exact ((hopcode.then_dummyRead _).then_setA _).then_setP _
  | implied _ ha he =>
    cases (he s).symm.trans h
    exact (hopcode.then_dummyRead _).then_impliedAct ha
  | flag _ _ he =>
    cases (he s).symm.trans h
    exact (hopcode.then_dummyRead _).then_setP _
  | @branch i cond off _ _ he =>
    cases (he s).symm.trans h
    exact (ThroughBus.refl s).then_withBranch cond off
  | jmpAbs => cases h; exact hopcode.then_fetchCycle.then_fetchCycle.then_setPc _
  | jmpInd =>
    cases h
    exact ((hopcode.then_fetchCycle.then_fetchCycle.then_memRead _).then_memRead _).then_setPc _
  | jsr =>
    cases h
    exact ((((hopcode.then_fetchCycle.then_dummyRead _).then_push _).then_push _).then_memRead _).then_setPc _
  | rts =>
    cases h
    exact (((hopcode.then_dummyRead _).then_dummyRead _).then_pull.then_pull.then_dummyRead _).then_setPc _
  | brk =>
    rcases exec_brk_cases h with rfl | rfl
    · exact hopcode.then_openReads _
    · exact hopcode.then_interruptEntry .brk
  | rti => cases h; exact hopcode.then_returnFromInterrupt

theorem atBoundary_clock_mem (s : State) : (atBoundary s).clock = s.clock ∧ (atBoundary s).mem = s.mem := by
  simp only [atBoundary, sampleInputs]
  split <;> exact ⟨rfl, rfl⟩

/-- So does every step, and the record of `t` holds the accesses of this step alone: the boundary empties it. -/
theorem step_throughBus {s t : State} (h : step s = .next t) :
    t.clock = s.clock + t.cycles.length ∧ t.mem = t.cycles.foldl (storeOf s.board) s.mem := by
  have hbus : ThroughBus (atBoundary s) t := by
    rcases step_next_cases h with ⟨kind, _, rfl⟩ | ⟨_, i, _, hexec⟩
    · exact (ThroughBus.refl _).then_interruptEntry kind
    · have hstart : ThroughBus (atBoundary s) (startInstr (atBoundary s)) := ThroughBus.refl _
      exact hstart.trans (exec_throughBus hexec)
  obtain ⟨l, _, hcycles, hclock, hmem⟩ := hbus
  have hl : t.cycles = l := hcycles
  obtain ⟨hclock₀, hmem₀⟩ := atBoundary_clock_mem s
  rw [hl, hclock, hmem, hclock₀, hmem₀, atBoundary_board]
  exact ⟨rfl, rfl⟩

/-- Settles O53: the accesses of the step are those whose clocks `ThroughBus` counts. -/
theorem oneAccessPerClock : Obligations.OneAccessPerClock := by
  intro s t h
  obtain ⟨hclock, _⟩ := step_throughBus h
  exact hclock

/-- An access that changes a byte is a write of the byte's new value at its address, in plain memory. -/
theorem write_of_read_storeOf_ne {board : List Region} {m : Memory} {c : BusCycle} {n : Nat}
    (h : Memory.read (storeOf board m c) n ≠ Memory.read m n) :
    c.kind = .write ∧ c.addr.toNat = n ∧ targetAt board c.addr = .memory ∧
      c.data = Memory.read (storeOf board m c) n := by
  by_cases hc : c.kind = .write ∧ targetAt board c.addr = .memory
  · rw [storeOf, if_pos hc, read_write] at h ⊢
    by_cases hn : n = c.addr.toNat
    · exact ⟨hc.1, hn.symm, hc.2, (if_pos hn).symm⟩
    · exact absurd (if_neg hn) h
  · exact absurd (by rw [storeOf, if_neg hc]) h

/-- Where replayed accesses changed a byte, one of them wrote its last value. -/
theorem exists_write_of_read_foldl_ne {board : List Region} {n : Nat} (l : List BusCycle) (m : Memory)
    (h : Memory.read (l.foldl (storeOf board) m) n ≠ Memory.read m n) :
    ∃ c ∈ l, c.kind = .write ∧ c.addr.toNat = n ∧ targetAt board c.addr = .memory ∧
      c.data = Memory.read (l.foldl (storeOf board) m) n := by
  induction l generalizing m with
  | nil => exact absurd rfl h
  | cons c rest ih =>
    rw [List.foldl_cons] at h ⊢
    by_cases hlast : Memory.read (rest.foldl (storeOf board) (storeOf board m c)) n = Memory.read (storeOf board m c) n
    · rw [hlast] at h ⊢
      exact ⟨c, List.mem_cons_self, write_of_read_storeOf_ne h⟩
    · obtain ⟨c', hmem, hwrite⟩ := ih _ hlast
      exact ⟨c', List.mem_cons_of_mem _ hmem, hwrite⟩

/-- Settles O54: memory after the step is the replay of its accesses, and in the replay only a write changes a byte. -/
theorem memoryChangesOnlyByWrites : Obligations.MemoryChangesOnlyByWrites := by
  intro s t n h hne
  obtain ⟨_, hmem⟩ := step_throughBus h
  rw [hmem] at hne ⊢
  exact exists_write_of_read_foldl_ne t.cycles s.mem hne

end Sys2Proof.Proofs

/-! ### The opcode table (30_encoding.md R91, R94, R96, R97) -/

namespace Sys2Proof.Proofs

open Sys2Proof.Machine Sys2Proof.Spec

/-- The opcode column of the table. -/
def tableOpcodes : List Byte := opcodeTable.map OpcodeRow.opcode

theorem length_opcodeTable : opcodeTable.length = 151 := by
  simp only [opcodeTable, List.length_append]
  rfl

theorem length_tableOpcodes : tableOpcodes.length = 151 := by rw [tableOpcodes, List.length_map, length_opcodeTable]

theorem length_undocumentedBytes : undocumentedBytes.length = 105 := rfl

/-- The table's opcodes and the undocumented bytes together hold no byte twice: the one comparison of the two lists, from
which distinct opcodes, disjointness and, by counting, completeness follow. -/
theorem nodup_tableOpcodes_append_undocumentedBytes : (tableOpcodes ++ undocumentedBytes).Nodup :=
  .of_map BitVec.toNat (by decide +kernel)

theorem nodup_tableOpcodes : tableOpcodes.Nodup := nodup_tableOpcodes_append_undocumentedBytes.of_append_left

/-- 151 and 105 distinct bytes are all 256. -/
theorem mem_tableOpcodes_or_mem_undocumentedBytes (op : Byte) : op ∈ tableOpcodes ∨ op ∈ undocumentedBytes := by
  rw [← List.mem_append]
  by_contra hnot
  have hnodup : (op :: (tableOpcodes ++ undocumentedBytes)).Nodup :=
    nodup_tableOpcodes_append_undocumentedBytes.cons hnot
  have hlength := hnodup.length_le_card
  rw [List.length_cons, List.length_append, length_tableOpcodes, length_undocumentedBytes] at hlength
  have hcard : Fintype.card Byte = 256 := FinEnum.card_eq_fintypeCard.symm
  omega

theorem mem_undocumentedBytes_iff (op : Byte) : op ∈ undocumentedBytes ↔ op ∉ tableOpcodes :=
  ⟨fun hundoc htable => List.disjoint_of_nodup_append nodup_tableOpcodes_append_undocumentedBytes htable hundoc,
    (mem_tableOpcodes_or_mem_undocumentedBytes op).resolve_left⟩

theorem opcodeRow?_eq_none_iff (op : Byte) : opcodeRow? op = none ↔ op ∉ tableOpcodes := by
  simp [opcodeRow?, tableOpcodes]

/-- The opcodes being distinct, the row found for a byte is the one row of the table with that opcode. -/
theorem opcodeRow?_eq_some_iff {op : Byte} {r : OpcodeRow} :
    opcodeRow? op = some r ↔ r ∈ opcodeTable ∧ r.opcode = op := by
  have hfound {q : OpcodeRow} (h : opcodeRow? op = some q) : q ∈ opcodeTable ∧ q.opcode = op :=
    ⟨List.mem_of_find?_eq_some h, eq_of_beq (List.find?_some (p := fun row : OpcodeRow => row.opcode == op) h)⟩
  refine ⟨hfound, fun ⟨hmem, hop⟩ => ?_⟩
  cases hrow : opcodeRow? op with
  | none => exact absurd (hop ▸ List.mem_map_of_mem hmem) ((opcodeRow?_eq_none_iff op).1 hrow)
  | some q =>
    obtain ⟨hqmem, hqop⟩ := hfound hrow
    exact congrArg some (List.inj_on_of_nodup_map nodup_tableOpcodes hqmem hmem (hqop.trans hop.symm))

/-- The length and mode columns fit, file by file of the table. -/
theorem row_len_and_mode : ∀ r ∈ opcodeTable, r.len = r.mode.length ∧ r.mode ∈ r.mnemonic.modes := by
  simp only [opcodeTable, List.forall_mem_append]
  and_intros <;> decide

/-- Settles O4: the bytes without a row are those not in the opcode column, which by counting are the undocumented ones. -/
theorem opcodeTableShape : Obligations.OpcodeTableShape :=
  ⟨length_opcodeTable, nodup_tableOpcodes, row_len_and_mode, length_undocumentedBytes, fun op =>
    (opcodeRow?_eq_none_iff op).trans (mem_undocumentedBytes_iff op).symm⟩

end Sys2Proof.Proofs

/-! ### The decoder and the encoder (30_encoding.md R90 to R93, R96) -/

namespace Sys2Proof.Proofs

open Sys2Proof.Machine Sys2Proof.Spec

/-- Which operand bytes a row's form takes and what instruction it makes of them (30_encoding.md R90: F1, F2, F3). -/
inductive Fills : Form → List Byte → Instr → Prop where
  | f1 (i : Instr) : Fills (.f1 i) [] i
  | f2 (mk : Byte → Instr) (b1 : Byte) : Fills (.f2 mk) [b1] (mk b1)
  | f3 (mk : Byte → Byte → Instr) (b1 b2 : Byte) : Fills (.f3 mk) [b1, b2] (mk b1 b2)

theorem decode_cons_of_fills {op : Byte} {r : OpcodeRow} {operands : List Byte} {i : Instr}
    (hrow : opcodeRow? op = some r) (hfills : Fills r.form operands i) (rest : List Byte) :
    decode (op :: operands ++ rest) = .ok (i, rest) := by
  simp only [decode, List.cons_append, hrow, Option.map_some]
  generalize r.form = form at hfills
  cases hfills <;> rfl

theorem decode_cons_of_opcodeRow?_eq_none {op : Byte} (hrow : opcodeRow? op = none) (rest : List Byte) :
    decode (op :: rest) = .error (.undocumented op) := by
  simp only [decode, hrow, Option.map_none]

/-- Bytes decode exactly if they are the opcode of a row, the operand bytes its form takes, and the rest. -/
theorem decode_eq_ok_iff {bytes rest : List Byte} {i : Instr} :
    decode bytes = .ok (i, rest) ↔ ∃ op r operands,
      opcodeRow? op = some r ∧ Fills r.form operands i ∧ bytes = op :: operands ++ rest := by
  refine ⟨fun h => ?_, ?_⟩
  · cases bytes with
    | nil => cases h
    | cons op tail =>
      cases hrow : opcodeRow? op with
      | none => cases (decode_cons_of_opcodeRow?_eq_none hrow tail).symm.trans h
      | some r =>
        suffices hfills : ∃ operands, Fills r.form operands i ∧ tail = operands ++ rest by
          obtain ⟨operands, hfills, rfl⟩ := hfills
          exact ⟨op, r, operands, hrow, hfills, rfl⟩
        simp only [decode, hrow, Option.map_some] at h
        generalize r.form = form at h
        match form, tail, h with
        | .f1 _, _, rfl => exact ⟨[], .f1 _, rfl⟩
        | .f2 mk, b1 :: _, rfl => exact ⟨[b1], .f2 mk b1, rfl⟩
        | .f3 mk, b1 :: b2 :: _, rfl => exact ⟨[b1, b2], .f3 mk b1 b2, rfl⟩
  · rintro ⟨op, r, operands, hrow, hfills, rfl⟩
    exact decode_cons_of_fills hrow hfills rest

/-- Soundness of a row: what its form makes of operand bytes is encoded by the row's opcode and these bytes. -/
def RowEncodes (r : OpcodeRow) : Prop :=
  ∀ (operands : List Byte) (i : Instr), Fills r.form operands i → encode i = r.opcode :: operands

/-- The table is sound, row by row. -/
theorem rowEncodes_of_mem {r : OpcodeRow} (h : r ∈ opcodeTable) : RowEncodes r := by
  revert r
  rw [← List.forall_iff_forall_mem]
  simp only [opcodeTable, List.forall_append]
  and_intros
  all_goals
    rintro _ _ ⟨⟩
    rfl

theorem exists_row_of_fills {form : Form} {operands : List Byte} {i : Instr} (hfills : Fills form operands i)
    (hmem : form ∈ opcodeTable.map OpcodeRow.form) : ∃ r ∈ opcodeTable, Fills r.form operands i := by
  obtain ⟨r, hr, rfl⟩ := List.mem_map.1 hmem
  exact ⟨r, hr, hfills⟩

/-- The table is complete, instruction by instruction: the form is that of the constructor, and `constructor` walks down
the table to the row that has it. -/
theorem exists_row (i : Instr) : ∃ r ∈ opcodeTable, Fills r.form i.operands i := by
  cases i <;> exact exists_row_of_fills (by constructor) (by repeat constructor)

/-- The row of an instruction is found under the instruction's own opcode. -/
theorem exists_opcodeRow? (i : Instr) : ∃ r, opcodeRow? i.opcode = some r ∧ Fills r.form i.operands i := by
  obtain ⟨r, hmem, hfills⟩ := exists_row i
  have hencode : i.opcode :: i.operands = r.opcode :: i.operands := rowEncodes_of_mem hmem _ _ hfills
  exact ⟨r, opcodeRow?_eq_some_iff.2 ⟨hmem, (List.cons.inj hencode).1.symm⟩, hfills⟩

theorem decode_encode_append (i : Instr) (rest : List Byte) : decode (encode i ++ rest) = .ok (i, rest) := by
  obtain ⟨r, hrow, hfills⟩ := exists_opcodeRow? i
  exact decode_cons_of_fills hrow hfills rest

theorem eq_encode_append_of_decode {bytes rest : List Byte} {i : Instr} (h : decode bytes = .ok (i, rest)) :
    bytes = encode i ++ rest := by
  obtain ⟨op, r, operands, hrow, hfills, rfl⟩ := decode_eq_ok_iff.1 h
  obtain ⟨hmem, rfl⟩ := opcodeRow?_eq_some_iff.1 hrow
  rw [rowEncodes_of_mem hmem operands i hfills]

/-- Every term of `Instr` is a documented form (30_encoding.md R99). -/
theorem instr_wf (i : Instr) : i.wf = true := by cases i <;> rfl

/-- Settles O1: the instruction's row is in the table, and its opcode finds no other. -/
theorem decodeOfEncode : Obligations.DecodeOfEncode := fun i rest _ => decode_encode_append i rest

/-- Settles O2: each row of the table makes only instructions with its own opcode and with the operand bytes read. -/
theorem decodedBytesAreTheEncoding : Obligations.DecodedBytesAreTheEncoding := fun _ _ i h =>
  ⟨eq_encode_append_of_decode h, instr_wf i⟩

/-- Settles O3: the bytes written out are the encodings of the ten instructions. -/
theorem exampleBytesDecode : Obligations.ExampleBytesDecode :=
  ⟨decode_encode_append (.adcImm 0x44) [], decode_encode_append (.andAbsX 0x00 0x44) [],
    decode_encode_append .aslA [], decode_encode_append (.bcc 0xFC) [], decode_encode_append (.jmpInd 0x97 0x55) [],
    decode_encode_append (.cmpIndX 0x44) [], decode_encode_append (.incZp 0x44) [],
    decode_encode_append (.ldxZpY 0x44) [], decode_encode_append (.staIndY 0x20) [], decode_encode_append .tsx []⟩

/-- The fetch of a byte without a row fails with that byte. -/
theorem fetchInstr_of_opcodeRow?_eq_none {s : State} (h : opcodeRow? (busValue s s.clock s.pc) = none) :
    fetchInstr s = .error (busValue s s.clock s.pc) := by
  simp only [fetchInstr, fetchBytes, decode_cons_of_opcodeRow?_eq_none h]

/-- Settles O6: an undocumented byte has no row, by the shape of the table (O4). -/
theorem undocumentedOpcodeRefused : Obligations.UndocumentedOpcodeRefused := by
  intro s hrun hundoc
  obtain ⟨_, _, _, _, hnone⟩ := opcodeTableShape
  simp only [step, hrun, fetchInstr_of_opcodeRow?_eq_none ((hnone _).2 hundoc)]

end Sys2Proof.Proofs

/-! ### The loader of the model (log 21) -/

namespace Sys2Proof.Proofs

open Sys2Proof.Machine Sys2Proof.Spec Sys2Proof.Laws

/-- Planting a byte changes memory and the address map alone. -/
theorem plantByte_frame (a : Addr) (v : Byte) (s : State) :
    plantByte a v s = { s with mem := (plantByte a v s).mem, board := (plantByte a v s).board } := by
  unfold plantByte
  split <;> rfl

theorem plantBytes_frame (a : Addr) (l : List Byte) (s : State) :
    plantBytes a l s = { s with mem := (plantBytes a l s).mem, board := (plantBytes a l s).board } := by
  induction l generalizing a s with
  | nil => rfl
  | cons v rest ih => rw [plantBytes, ih, plantByte_frame]

/-- A region of one address holds that address and no other. -/
theorem targetAt_singleton_cons (a b : Addr) (target : BusTarget) (board : List Region) :
    targetAt (⟨a.toNat, 1, target⟩ :: board) b = if b = a then target else targetAt board b := by
  have hregion : a.toNat ≤ b.toNat ∧ b.toNat < a.toNat + 1 ↔ b = a := by
    rw [← BitVec.toNat_inj]; omega
  simp only [targetAt, hregion]

/-- The bus after planting: the byte at its address, whatever answered there, and all else as before. -/
theorem busValue_plantByte (a b : Addr) (v : Byte) (s : State) (n : Nat) :
    busValue (plantByte a v s) n b = if b = a then v else busValue s n b := by
  by_cases hb : b = a
  · subst hb
    cases htarget : targetAt s.board b <;>
      simp [plantByte, busValue, htarget, targetAt_singleton_cons, read_write]
  · have hne : b.toNat ≠ a.toNat := fun h => hb (BitVec.eq_of_toNat_eq h)
    cases htarget : targetAt s.board a <;>
      simp [plantByte, busValue, htarget, targetAt_singleton_cons, read_write, hb, hne]

theorem fetchBytes_plantBytes (b0 b1 b2 : Byte) (s : State) :
    fetchBytes (plantBytes s.pc [b0, b1, b2] s) = [b0, b1, b2] := by
  have hpc : (plantBytes s.pc [b0, b1, b2] s).pc = s.pc := by rw [plantBytes_frame]
  have h01 : s.pc ≠ s.pc + 1 := by bv_omega
  have h02 : s.pc ≠ s.pc + 2 := by bv_omega
  have h12 : s.pc + 1 ≠ s.pc + 2 := by bv_omega
  have h2 : s.pc + 1 + 1 = s.pc + 2 := by bv_omega
  rw [fetchBytes, hpc]
  simp only [plantBytes, busValue_plantByte, h2, h01, h02, h12, if_false, if_true]

/-- A word that decodes gives bytes that decode. -/
theorem decode_of_decodeTableWord {nbits w : Nat} {i : Instr} (h : decodeTableWord nbits w = some i) :
    ∃ rest, decode (tableBytes nbits w) = .ok (i, rest) := by
  unfold decodeTableWord at h
  split at h
  next j rest hdecode => cases h; exact ⟨rest, hdecode⟩
  next => cases h

/-- The loader changes memory, the address map and the input lines alone, and the lines are at rest afterwards. -/
theorem withFetchWord_frame (s : State) (nbits w : Nat) :
    s.withFetchWord nbits w =
      { quietLines s with mem := (s.withFetchWord nbits w).mem, board := (s.withFetchWord nbits w).board } :=
  plantBytes_frame s.pc (tableBytes nbits w) (quietLines s)

theorem fetchBytes_withFetchWord (s : State) (nbits w : Nat) :
    fetchBytes (s.withFetchWord nbits w) = tableBytes nbits w :=
  fetchBytes_plantBytes _ _ _ (quietLines s)

/-- Settles O11: the lines are at rest, so the step runs what the planted bytes decode to (O5); all else is the frame of
the loader. -/
theorem fetchWordRunsItsInstruction : Obligations.FetchWordRunsItsInstruction := by
  intro s nbits w i hword u
  have hframe : u = { quietLines s with mem := u.mem, board := u.board } := withFetchWord_frame s nbits w
  obtain ⟨rest, hdecode⟩ := decode_of_decodeTableWord hword
  have henv : u.env = [] := by rw [hframe]; rfl
  have hfetch : decode (fetchBytes (atBoundary u)) = .ok (i, rest) := by
    rw [atBoundary_of_env_nil henv, ← hdecode, ← fetchBytes_withFetchWord s nbits w]
    rfl
  obtain ⟨_, hquiet⟩ := stepRunsDecodedInstruction u i rest hfetch (instr_wf i)
  refine ⟨hquiet henv ?_ ?_ ?_, ?_, ?_, ?_, ?_, ?_, ?_, ?_⟩
  all_goals
    rw [hframe]
    rfl

end Sys2Proof.Proofs

/-! ### The addressing modes (40_addressing_modes.md R113 to R116, R119, R120, R123) -/

namespace Sys2Proof.Proofs

open Sys2Proof.Machine Sys2Proof.Spec Sys2Proof.Laws

/-! Addresses in plain arithmetic -/

theorem mkAddr_eq_word (h l : Byte) : mkAddr h l = word h l := by
  apply BitVec.eq_of_toNat_eq
  have hl : l.toNat < 2 ^ 8 := l.isLt
  rw [mkAddr, BitVec.toNat_append, ← Nat.shiftLeft_add_eq_or_of_lt hl, word, BitVec.toNat_ofNat, Nat.shiftLeft_eq]
  omega

theorem zeroPageAddr_eq_zp (l : Byte) : zeroPageAddr l = zp l.toNat := by
  rw [zeroPageAddr, mkAddr_eq_word, word, zp, Nat.mod_eq_of_lt l.isLt]
  simp

/-- Inside the zero page a carry of an inner sum is ignored too (20_memory.md R61). -/
theorem zp_add8_add (a b : Byte) (k : Nat) : zp ((add8 a b).toNat + k) = zp (a.toNat + b.toNat + k) := by
  rw [zp, zp, add8, BitVec.toNat_add, Nat.mod_add_mod]

theorem zeroPageAddr_add8 (a b : Byte) : zeroPageAddr (add8 a b) = zp (a.toNat + b.toNat) := by
  rw [zeroPageAddr_eq_zp]
  exact zp_add8_add a b 0

theorem zeroPageAddr_add8_one (l : Byte) : zeroPageAddr (add8 l 1) = zp (l.toNat + 1) := zeroPageAddr_add8 l 1

/-- The second byte of an indexed pointer (40_addressing_modes.md R119). -/
theorem zeroPageAddr_add8_add8_one (a b : Byte) :
    zeroPageAddr (add8 (add8 a b) 1) = zp (a.toNat + b.toNat + 1) := by
  rw [zeroPageAddr_add8_one, zp_add8_add]

theorem add16_eq_add_ofNat (w : Addr) (b : Byte) : add16 w b = w + BitVec.ofNat 16 b.toNat := by
  rw [add16, BitVec.ofNat_toNat]

theorem loByte_mkAddr (h l : Byte) : loByte (mkAddr h l) = l := by
  rw [loByte, mkAddr]
  exact BitVec.extractLsb'_append_eq_right

/-- The model's page cross is the carry of the low-byte addition alone (40_addressing_modes.md R123). -/
theorem indexCrosses_mkAddr (h l index : Byte) : indexCrosses (mkAddr h l) index = crosses l index := by
  rw [indexCrosses, loByte_mkAddr, crosses]

/-- The address after two fetches (00_scope.md R11). -/
theorem pc_add_one_add_one (w : Addr) : w + 1 + 1 = w + 2 := BitVec.add_assoc w 1 1

/-! Reads of the bus, one after another -/

/-- From `s` to `t` exactly the accesses `l` were made and each later read of the bus answers as in `s`. -/
def ReadsMade (s t : State) (l : List BusCycle) : Prop :=
  Made s t l ∧ ∀ (n : Nat) (a : Addr), busValue t n a = busValue s n a

namespace ReadsMade

variable {s u : State} {l : List BusCycle}

theorem refl (s : State) : ReadsMade s s [] := ⟨⟨(List.append_nil _).symm, rfl⟩, fun _ _ => rfl⟩

/-- One more access: it falls in the clock that the accesses before it count up to (20_memory.md R66). -/
theorem then_access {t : State} (h : ReadsMade s u l) (kind : AccessKind) (a : Addr)
    (hcycles : t.cycles = u.cycles ++ [⟨kind, a, busValue u u.clock a⟩]) (hclock : t.clock = u.clock + 1)
    (hbus : ∀ n b, busValue t n b = busValue u n b) :
    ReadsMade s t (l ++ [⟨kind, a, busValue s (s.clock + l.length) a⟩]) := by
  obtain ⟨⟨hcycles_u, hclock_u⟩, hbus_u⟩ := h
  refine ⟨⟨?_, ?_⟩, fun n b => (hbus n b).trans (hbus_u n b)⟩
  · rw [hcycles, hcycles_u, hbus_u, hclock_u, List.append_assoc]
  · rw [hclock, hclock_u, List.length_append, List.length_singleton, Nat.add_assoc]

theorem then_memRead (h : ReadsMade s u l) (a : Addr) : ReadsMade s (memRead a u).2 (l ++ [rd s l.length a]) :=
  h.then_access .read a rfl rfl fun _ _ => rfl

theorem then_dummyRead (h : ReadsMade s u l) (a : Addr) : ReadsMade s (dummyRead a u) (l ++ [dr s l.length a]) :=
  h.then_access .dummyRead a rfl rfl fun _ _ => rfl

theorem then_fetchCycle (h : ReadsMade s u l) : ReadsMade s (fetchCycle u) (l ++ [rd s l.length u.pc]) :=
  h.then_access .read u.pc rfl rfl fun _ _ => rfl

/-- The extra dummy read of a page cross (40_addressing_modes.md R123). -/
theorem then_dummyReadIf (h : ReadsMade s u l) (cross : Bool) (a : Addr) :
    ReadsMade s (if cross then dummyRead a u else u) (l ++ if cross then [dr s l.length a] else []) := by
  cases cross with
  | true => exact h.then_dummyRead a
  | false => simpa using h

end ReadsMade

/-- The opcode and the first operand byte, as every mode fetches them (40_addressing_modes.md, the cycle tables). -/
theorem readsMade_two_fetches (s : State) :
    ReadsMade s (fetchCycle (fetchCycle s)) [rd s 0 s.pc, rd s 1 (s.pc + 1)] :=
  (ReadsMade.refl s).then_fetchCycle.then_fetchCycle

/-- The opcode and both operand bytes of an absolute mode (40_addressing_modes.md R115, R116). -/
theorem readsMade_three_fetches (s : State) :
    ReadsMade s (fetchCycle (fetchCycle (fetchCycle s))) [rd s 0 s.pc, rd s 1 (s.pc + 1), rd s 2 (s.pc + 2)] := by
  rw [← pc_add_one_add_one]
  exact (readsMade_two_fetches s).then_fetchCycle

/-! What forming an address yields -/

/-- The address of the rule: each pointer byte is what the bus answers in the clock of its read. -/
theorem resolve_fetchCycle_addr (m : MemOperand) (s : State) : (resolve m (fetchCycle s)).1 = ea s m := by
  cases m with
  | zeroPage lo => exact zeroPageAddr_eq_zp lo
  | zeroPageX lo => exact zeroPageAddr_add8 lo s.x
  | zeroPageY lo => exact zeroPageAddr_add8 lo s.y
  | absolute lo hi => exact mkAddr_eq_word hi lo
  | absoluteX lo hi | absoluteY lo hi =>
    rw [ea, ← mkAddr_eq_word, ← add16_eq_add_ofNat]
    rfl
  | indirectX lo =>
    rw [ea, ← mkAddr_eq_word, ← zeroPageAddr_add8_add8_one, ← zeroPageAddr_add8]
    rfl
  | indirectY lo =>
    rw [ea, ← mkAddr_eq_word, ← add16_eq_add_ofNat, ← zeroPageAddr_add8_one, ← zeroPageAddr_eq_zp]
    rfl

/-- The accesses of the mode's cycle table, and none that changes what the bus answers. -/
theorem readsMade_resolve (m : MemOperand) (s : State) :
    ReadsMade s (resolve m (fetchCycle s)).2 (access s m) := by
  cases m with
  | zeroPage => exact readsMade_two_fetches s
  | zeroPageX | zeroPageY => exact (readsMade_two_fetches s).then_dummyRead _
  | absolute => exact readsMade_three_fetches s
  | absoluteX lo hi | absoluteY lo hi =>
    simp only [resolve, access, indexCrosses_mkAddr, fetchCycle_pc, pc_add_one_add_one]
    exact (readsMade_three_fetches s).then_dummyReadIf _ _
  | indirectX lo =>
    simp only [resolve, access, ← zeroPageAddr_add8_add8_one, ← zeroPageAddr_add8]
    exact (((readsMade_two_fetches s).then_dummyRead _).then_memRead _).then_memRead _
  | indirectY lo =>
    simp only [resolve, access, indexCrosses_mkAddr, ← zeroPageAddr_add8_one, ← zeroPageAddr_eq_zp]
    exact (((readsMade_two_fetches s).then_memRead _).then_memRead _).then_dummyReadIf _ _

theorem rest_resolve_fetchCycle (m : MemOperand) (s : State) : Rest s (resolve m (fetchCycle s)).2 := by
  simp only [Rest, resolve_board, resolve_resetReq, resolve_nmiPending, resolve_irqLine, resolve_afterBrk, resolve_env,
    fetchCycle_board, fetchCycle_resetReq, fetchCycle_nmiPending, fetchCycle_irqLine, fetchCycle_afterBrk,
    fetchCycle_env, and_self]

/-- The operand bytes that the laws count are those of the statements. -/
theorem ofNat_operandBytes (m : MemOperand) : BitVec.ofNat 16 (operandBytes m) = operandLength m := by
  cases m <;> rfl

theorem regs_resolve_fetchCycle (m : MemOperand) (s : State) :
    Regs s (resolve m (fetchCycle s)).2 s.a s.x s.y s.sp s.p (s.pc + 1 + operandLength m) [] := by
  simp only [Regs, resolve_a, resolve_x, resolve_y, resolve_sp, resolve_p, resolve_pc, resolve_mem, fetchCycle_a,
    fetchCycle_x, fetchCycle_y, fetchCycle_sp, fetchCycle_p, fetchCycle_pc, fetchCycle_mem, ofNat_operandBytes, stored,
    implies_true, and_self]

/-- Settles O17: the address by `resolve_fetchCycle_addr`, the accesses by `readsMade_resolve`, the frame by the laws of
`resolve`. -/
theorem effectiveAddressesOfModes : Obligations.EffectiveAddressesOfModes := by
  intro m s
  obtain ⟨hmade, _⟩ := readsMade_resolve m s
  exact ⟨resolve_fetchCycle_addr m s, hmade, rest_resolve_fetchCycle m s, regs_resolve_fetchCycle m s⟩

end Sys2Proof.Proofs

/-! ### SBC as ADC of the complement (41_arithmetic.md R133) -/

namespace Sys2Proof.Proofs

open Sys2Proof.Machine

/-- The spec's "xor $FF" is the bitwise complement. -/
theorem xor_FF_eq_not (m : Byte) : m ^^^ 0xFF = ~~~m := BitVec.xor_allOnes

/-- The true sum of ADC with the complement is 256 more than the true difference of SBC (41_arithmetic.md R133). -/
theorem adcSum_not_eq_sbcDiff_add (a m : Byte) (c : Bool) :
    ((a.toNat + (~~~m).toNat + c.toNat : Nat) : Int) = ((a.toNat : Int) - m.toNat - (1 - (c.toNat : Int))) + 256 := by
  have hm : m.toNat < 256 := m.isLt
  rw [BitVec.toNat_not]
  omega

/-- Bytes narrowed from true results that are 256 apart are equal. -/
theorem ofInt_eq_ofNat_of_add {t : Int} {n : Nat} (h : (n : Int) = t + 256) : BitVec.ofInt 8 t = BitVec.ofNat 8 n := by
  apply BitVec.eq_of_toInt_eq
  rw [← BitVec.ofInt_natCast, BitVec.toInt_ofInt, BitVec.toInt_ofInt, h]
  exact (Int.add_bmod_right t 256).symm

/-- No borrow out of SBC is the carry out of ADC (41_arithmetic.md R130, R131). -/
theorem nonneg_iff_carry_of_add {t : Int} {n : Nat} (h : (n : Int) = t + 256) : 0 ≤ t ↔ 255 < n := by omega

/-- Operands of different sign are, with the complement, operands of one sign. -/
theorem bne_sign_eq_beq_sign_not (a m : Byte) : (a.getLsbD 7 != m.getLsbD 7) = (a.getLsbD 7 == (~~~m).getLsbD 7) := by
  have hbit : (~~~m).getLsbD 7 = !m.getLsbD 7 := by simp
  rw [hbit]
  cases a.getLsbD 7 <;> cases m.getLsbD 7 <;> rfl

theorem sbc_eq_adc_not (a m : Byte) (p : Status) : sbc a m p = adc a (~~~m) p := by
  have hsum := adcSum_not_eq_sbcDiff_add a m p.c
  simp only [sbc, adc, ofInt_eq_ofNat_of_add hsum, nonneg_iff_carry_of_add hsum, bne_sign_eq_beq_sign_not]

theorem sbc_eq_adc_xor (a m : Byte) (p : Status) : sbc a m p = adc a (m ^^^ 0xFF) p := by
  rw [xor_FF_eq_not, sbc_eq_adc_not]

theorem subtractAct_eq_addAct_xor (m : Byte) (u : State) : subtractAct m u = addAct (m ^^^ 0xFF) u := by
  rw [subtractAct, addAct, sbc_eq_adc_xor]

/-- An immediate datum reaches the act after the same two fetches, whatever its value (40_addressing_modes.md R112). -/
theorem withRead_immediate (data : Byte) (act : Byte → State → State) (s : State) :
    withRead (.immediate data) act s = act data (fetchCycle (fetchCycle s)) := rfl

/-- What `SBC #` runs (41_arithmetic.md R131). -/
theorem exec_sbcImm (m : Byte) (s : State) :
    exec (.sbcImm m) s = .next (withRead (.immediate m) subtractAct s) := rfl

/-- What `ADC #` runs (41_arithmetic.md R130). -/
theorem exec_adcImm (m : Byte) (s : State) :
    exec (.adcImm m) s = .next (withRead (.immediate m) addAct s) := rfl

/-- Settles O21: the computations agree because their true results are 256 apart; the instructions fetch alike and
differ in the act alone. -/
theorem sbcIsAdcOfComplement : Obligations.SbcIsAdcOfComplement := by
  refine ⟨fun m s => ?_, sbc_eq_adc_xor⟩
  have hread : withRead (.immediate m) subtractAct s = withRead (.immediate (m ^^^ 0xFF)) addAct s := by
    rw [withRead_immediate, withRead_immediate, subtractAct_eq_addAct_xor]
  rw [exec_sbcImm, exec_adcImm, hread]

end Sys2Proof.Proofs

/-! ### Instructions that read a datum (40_addressing_modes.md R112, R122) -/

namespace Sys2Proof.Proofs

open Sys2Proof.Machine Sys2Proof.Spec Sys2Proof.Laws

/-! The mnemonics that read a datum do nothing else with an operand -/

theorem readAct_eq_none_of_storedReg {m : Mnemonic} {s : State} {v : Byte} (h : storedReg m s = some v) :
    readAct m = none := by
  cases m <;> cases h <;> rfl

theorem readAct_eq_none_of_modifyFn {m : Mnemonic} {f : Byte → Status → Byte × Status} (h : modifyFn m = some f) :
    readAct m = none := by
  cases m <;> cases h <;> rfl

theorem readAct_eq_none_of_impliedAct {m : Mnemonic} {act : State → State} (h : impliedAct m = some act) :
    readAct m = none := by
  cases m <;> cases h <;> rfl

theorem readAct_eq_none_of_flagged {m : Mnemonic} {p q : Status} (h : flagged m p = some q) : readAct m = none := by
  cases m <;> cases h <;> rfl

theorem readAct_eq_none_of_branchCond {m : Mnemonic} {p : Status} {taken : Bool} (h : branchCond m p = some taken) :
    readAct m = none := by
  cases m <;> cases h <;> rfl

/-- The mnemonic and the operand say what such an instruction runs. -/
theorem exec_of_readAct {i : Instr} {o : ReadOperand} {act : Byte → State → State} (ho : i.readOperand? = some o)
    (ha : readAct i.mnemonic = some act) (s : State) : exec i s = .next (withRead o act s) := by
  cases exec_form i with
  | read ho' ha' he =>
    cases ho.symm.trans ho'
    cases ha.symm.trans ha'
    exact he s
  | store _ hr _ => cases ha.symm.trans (readAct_eq_none_of_storedReg (hr s))
  | modify _ hf _ | accumulator _ hf _ => cases ha.symm.trans (readAct_eq_none_of_modifyFn hf)
  | implied _ hi _ => cases ha.symm.trans (readAct_eq_none_of_impliedAct hi)
  | flag _ hg _ => cases ha.symm.trans (readAct_eq_none_of_flagged (hg s.p))
  | branch _ hc _ => cases ha.symm.trans (readAct_eq_none_of_branchCond (hc s.p))
  | jmpAbs | jmpInd | jsr | rts | brk | rti => cases ha

/-! What reading the datum yields -/

/-- The datum is the immediate byte, or what the bus answers at the effective address in the clock of the read. -/
theorem readOperand_fetchCycle_datum (o : ReadOperand) (s : State) :
    (readOperand o (fetchCycle s)).1 = datum s o := by
  cases o with
  | immediate => rfl
  | memory m =>
    obtain ⟨⟨_, hclock⟩, hbus⟩ := readsMade_resolve m s
    rw [datum, ← resolve_fetchCycle_addr, ← hclock, ← hbus]
    rfl

/-- The accesses of the mode, and the read. -/
theorem readsMade_readOperand (o : ReadOperand) (s : State) :
    ReadsMade s (readOperand o (fetchCycle s)).2 (readAccesses s o) := by
  cases o with
  | immediate => exact readsMade_two_fetches s
  | memory m =>
    rw [readAccesses, ← resolve_fetchCycle_addr]
    exact (readsMade_resolve m s).then_memRead _

/-- PC is past the operand bytes once the datum is read. -/
theorem readOperand_fetchCycle_pc {i : Instr} {o : ReadOperand} (ho : i.readOperand? = some o) (s : State) :
    (readOperand o (fetchCycle s)).2.pc = next s i := by
  rw [readOperand_pc, fetchCycle_pc, pc_after _ _ _ (length_of_readOperand ho), ofNat_toNat_add, next]

theorem withRead_eq (o : ReadOperand) (act : Byte → State → State) (s : State) :
    withRead o act s = act (datum s o) (readOperand o (fetchCycle s)).2 := by
  rw [withRead, readOperand_fetchCycle_datum]

theorem withRead_regsAndFlags {m : Mnemonic} {act : Byte → State → State} (ha : readAct m = some act) (o : ReadOperand)
    (s : State) : RegsAndFlags (readOperand o (fetchCycle s)).2 (withRead o act s) :=
  readAct_regsAndFlags ha _ _

/-- All that is left open by the form of such an instruction is what its act does to A, X, Y, S and P. -/
theorem yields_of_readAct {i : Instr} {o : ReadOperand} {act : Byte → State → State} (ho : i.readOperand? = some o)
    (ha : readAct i.mnemonic = some act) (s : State) :
    Yields i s (withRead o act s).a (withRead o act s).x (withRead o act s).y (withRead o act s).sp
      (withRead o act s).p (next s i) [] (readAccesses s o) := by
  obtain ⟨⟨hcycles_read, hclock_read⟩, _⟩ := readsMade_readOperand o s
  obtain ⟨hpc, hmem, hboard, hreset, hnmi, hirq, hbrk, henv, hclock, hcycles⟩ := withRead_regsAndFlags ha o s
  refine ⟨withRead o act s, exec_of_readAct ho ha s, ⟨rfl, rfl, rfl, rfl, rfl, ?pc, ?mem⟩, ?rest, ?made⟩
  case pc => rw [hpc, readOperand_fetchCycle_pc ho]
  case mem => simp [hmem, stored]
  case rest => simp [Rest, hboard, hreset, hnmi, hirq, hbrk, henv]
  case made => exact ⟨hcycles.trans hcycles_read, hclock.trans hclock_read⟩

/-- The model's N and Z of a result are those of 10_state.md R34. -/
theorem setNZ_eq_nz (r : Byte) (p : Status) : setNZ r p = nz p r := by
  have hn : r.getLsbD 7 = decide (128 ≤ r.toNat) := BitVec.msb_eq_decide r
  have hz : (r == 0#8) = decide (r.toNat = 0) := by simp [BitVec.toNat_eq, Bool.beq_eq_decide_eq]
  rw [setNZ, nz, hn, hz]

/-- A read whose act loads A with a result changes A, N and Z alone. -/
theorem yields_of_loadA {i : Instr} {o : ReadOperand} {act : Byte → State → State} {s : State} {r : Byte}
    (ho : i.readOperand? = some o) (ha : readAct i.mnemonic = some act)
    (hact : ∀ u : State, u.a = s.a → act (datum s o) u = loadA r u) :
    Yields i s r s.x s.y s.sp (nz s.p r) (next s i) [] (readAccesses s o) := by
  have hread : withRead o act s = loadA r (readOperand o (fetchCycle s)).2 := by
    rw [withRead_eq, hact _ (by simp)]
  simpa [hread, loadA, setNZ_eq_nz] using yields_of_readAct ho ha s

end Sys2Proof.Proofs

/-! ### The opcode table and the instructions (30_encoding.md R96) -/

namespace Sys2Proof.Proofs

/-- A row names what it makes: the instruction has the row's mnemonic and mode. -/
def RowNames (r : OpcodeRow) : Prop :=
  ∀ (operands : List Byte) (i : Instr), Fills r.form operands i → i.mnemonic = r.mnemonic ∧ i.mode = r.mode

theorem rowNames_of_mem {r : OpcodeRow} (h : r ∈ opcodeTable) : RowNames r := by
  revert r
  rw [← List.forall_iff_forall_mem]
  simp only [opcodeTable, List.forall_append]
  and_intros
  all_goals
    rintro _ _ ⟨⟩
    exact ⟨rfl, rfl⟩

/-- Every instruction has a row of its own mnemonic, mode and opcode. -/
theorem exists_row_of_instr (i : Instr) :
    ∃ r ∈ opcodeTable, i.mnemonic = r.mnemonic ∧ i.mode = r.mode ∧ i.opcode = r.opcode := by
  obtain ⟨r, hmem, hfills⟩ := exists_row i
  obtain ⟨hmnemonic, hmode⟩ := rowNames_of_mem hmem _ _ hfills
  have hencode : i.opcode :: i.operands = r.opcode :: i.operands := rowEncodes_of_mem hmem _ _ hfills
  exact ⟨r, hmem, hmnemonic, hmode, (List.cons.inj hencode).1⟩

end Sys2Proof.Proofs

/-! ### AND, ORA, EOR (42_logical.md R140 to R142) -/

namespace Sys2Proof.Proofs

open Sys2Proof.Machine Sys2Proof.Spec

/-- The rows of the opcode table with a logical mnemonic are the 24 forms. -/
theorem row_mem_codesLogical : ∀ r ∈ opcodeTable, r.mnemonic ∈ [Mnemonic.AND, .ORA, .EOR] →
    (r.mnemonic, r.mode, r.opcode) ∈ codesLogical := by
  simp only [opcodeTable, List.forall_mem_append]
  and_intros <;> decide

theorem mem_codesLogical {i : Instr} (h : i.mnemonic ∈ [Mnemonic.AND, .ORA, .EOR]) :
    (i.mnemonic, i.mode, i.opcode) ∈ codesLogical := by
  obtain ⟨r, hmem, hmnemonic, hmode, hopcode⟩ := exists_row_of_instr i
  rw [hmnemonic] at h
  rw [hmnemonic, hmode, hopcode]
  exact row_mem_codesLogical r hmem h

/-- A mnemonic with a logical result loads A with it: the bitwise operations on bytes are those on their numbers. -/
theorem readAct_of_logical {m : Mnemonic} {a v r : Byte} (h : logical m a v = some r) :
    m ∈ [Mnemonic.AND, .ORA, .EOR] ∧
      ∃ act, readAct m = some act ∧ ∀ u : State, u.a = a → act v u = loadA r u := by
  cases m <;> cases h
  case AND => exact ⟨by decide, andAct, rfl, fun u hu => by simp [andAct, hu, BitVec.ofNat_and]⟩
  case ORA => exact ⟨by decide, orAct, rfl, fun u hu => by simp [orAct, hu, BitVec.ofNat_or]⟩
  case EOR => exact ⟨by decide, eorAct, rfl, fun u hu => by simp [eorAct, hu, BitVec.ofNat_xor]⟩

/-- Settles O22: the result fixes the act, which loads A; all else is that of any instruction that reads a datum. -/
theorem logicalInstructions : Obligations.LogicalInstructions := by
  intro i o s r ho hr
  obtain ⟨hmnemonic, act, ha, hact⟩ := readAct_of_logical hr
  exact ⟨mem_codesLogical hmnemonic, yields_of_loadA ho ha hact⟩

end Sys2Proof.Proofs

/-! ### Instructions that modify a byte of memory or A (40_addressing_modes.md R111, R122) -/

namespace Sys2Proof.Proofs

open Sys2Proof.Machine Sys2Proof.Spec Sys2Proof.Laws

/-- The mnemonics that modify a byte do nothing else. -/
theorem eq_none_of_modifyFn {m : Mnemonic} {f : Byte → Status → Byte × Status} (h : modifyFn m = some f) :
    (∀ s, storedReg m s = none) ∧ impliedAct m = none ∧ (∀ p, flagged m p = none) ∧ ∀ p, branchCond m p = none := by
  cases m <;> cases h <;> exact ⟨fun _ => rfl, rfl, fun _ => rfl, fun _ => rfl⟩

theorem memOperand_eq_none_of_accumulator {i : Instr} (hmode : i.mode = .accumulator) : i.memOperand? = none := by
  rw [Instr.memOperand?, hmode]
  rfl

/-- What such an instruction runs: it modifies its memory operand, or A when it has none. -/
theorem exec_modifyFn_cases {i : Instr} {f : Byte → Status → Byte × Status} (hf : modifyFn i.mnemonic = some f) :
    (∃ m, i.memOperand? = some m ∧ ∀ s, exec i s = .next (withModify m f s)) ∨
      (i.mode = .accumulator ∧ ∀ s, exec i s = .next (withAccumulator f s)) := by
  obtain ⟨hstored, himplied, hflagged, hbranch⟩ := eq_none_of_modifyFn hf
  cases exec_form i with
  | read _ ha _ => cases ha.symm.trans (readAct_eq_none_of_modifyFn hf)
  | store _ hr _ => exact nomatch (hr State.reset).symm.trans (hstored _)
  | modify hm hf' he =>
    cases hf.symm.trans hf'
    exact .inl ⟨_, hm, he⟩
  | accumulator hmode hf' he =>
    cases hf.symm.trans hf'
    exact .inr ⟨hmode, he⟩
  | implied _ ha _ => cases ha.symm.trans himplied
  | flag _ hg _ => exact nomatch (hg State.reset.p).symm.trans (hflagged _)
  | branch _ hc _ => exact nomatch (hc State.reset.p).symm.trans (hbranch _)
  | jmpAbs | jmpInd | jsr | rts | brk | rti => cases hf

theorem exec_of_modifyFn {i : Instr} {m : MemOperand} {f : Byte → Status → Byte × Status}
    (hm : i.memOperand? = some m) (hf : modifyFn i.mnemonic = some f) (s : State) :
    exec i s = .next (withModify m f s) := by
  obtain ⟨m', hm', he⟩ | ⟨hmode, _⟩ := exec_modifyFn_cases hf
  · cases hm.symm.trans hm'
    exact he s
  · cases hm.symm.trans (memOperand_eq_none_of_accumulator hmode)

theorem exec_of_modifyFn_accumulator {i : Instr} {f : Byte → Status → Byte × Status}
    (hmode : i.mode = .accumulator) (hf : modifyFn i.mnemonic = some f) (s : State) :
    exec i s = .next (withAccumulator f s) := by
  obtain ⟨m, hm, _⟩ | ⟨_, he⟩ := exec_modifyFn_cases hf
  · cases hm.symm.trans (memOperand_eq_none_of_accumulator hmode)
  · exact he s

/-- A read-modify-write is the read of its datum, the dummy write and the write of the result. -/
theorem withModify_eq (m : MemOperand) (f : Byte → Status → Byte × Status) (s : State) :
    withModify m f s = setP (f (datum s (.memory m)) s.p).2
      (memWrite (ea s m) (f (datum s (.memory m)) s.p).1
        (dummyWrite (ea s m) (readOperand (.memory m) (fetchCycle s)).2)) := by
  rw [← readOperand_fetchCycle_datum, ← resolve_fetchCycle_addr]
  rfl

/-- The read of the datum, some byte written, then the result written. -/
theorem made_withModify (m : MemOperand) (f : Byte → Status → Byte × Status) (s : State) :
    ∃ g, Made s (withModify m f s) (modifyAccesses s m g (f (datum s (.memory m)) s.p).1) := by
  obtain ⟨⟨hcycles, hclock⟩, _⟩ := readsMade_readOperand (.memory m) s
  refine ⟨Config.garbageByte (readOperand (.memory m) (fetchCycle s)).2.clock, ?_, ?_⟩
  · simp [withModify_eq, hcycles, modifyAccesses, readAccesses]
  · simp [withModify_eq, hclock, modifyAccesses, readAccesses, Nat.add_assoc]

/-- The result goes to the effective address: the dummy write leaves no trace in memory (20_memory.md R67). -/
theorem read_withModify (m : MemOperand) (f : Byte → Status → Byte × Status) (s : State) (n : Nat) :
    Memory.read (withModify m f s).mem n = stored s [(ea s m, (f (datum s (.memory m)) s.p).1)] n := by
  rw [withModify_eq, setP_mem, read_memWrite]
  simp [stored]

/-- All that is left open by the form of such an instruction is the result and the flags that it computes. -/
theorem yields_of_modifyFn {i : Instr} {m : MemOperand} {f : Byte → Status → Byte × Status} {s : State} {r : Byte}
    {p : Status} (hm : i.memOperand? = some m) (hf : modifyFn i.mnemonic = some f)
    (hr : f (datum s (.memory m)) s.p = (r, p)) :
    ∃ g, Yields i s s.a s.x s.y s.sp p (next s i) [(ea s m, r)] (modifyAccesses s m g r) := by
  obtain ⟨g, hmade⟩ := made_withModify m f s
  have hmem := read_withModify m f s
  rw [hr] at hmade hmem
  refine ⟨g, withModify m f s, exec_of_modifyFn hm hf s, ⟨?a, ?x, ?y, ?sp, ?p, ?pc, hmem⟩, ?rest, hmade⟩
  case pc =>
    have hlength : i.length = 1 + operandBytes m := length_of_memOperand hm
    simp [withModify, next, hlength, BitVec.ofNat_add, BitVec.add_assoc]
  case p => rw [withModify_eq, setP_p, hr]
  case rest => simp [withModify, Rest]
  all_goals simp [withModify]

/-- The same with A in the place of the byte of memory, by the two accesses of the Accumulator mode. -/
theorem yields_of_modifyFn_accumulator {i : Instr} {f : Byte → Status → Byte × Status} {s : State} {r : Byte}
    {p : Status} (hmode : i.mode = .accumulator) (hf : modifyFn i.mnemonic = some f) (hr : f s.a s.p = (r, p)) :
    Yields i s r s.x s.y s.sp p (next s i) [] (twoAccesses s) := by
  have hrun : withAccumulator f s = setP p (setA r (dummyRead (s.pc + 1) (fetchCycle s))) := by
    simp [withAccumulator, withImplied, hr]
  obtain ⟨hmade, _⟩ := (ReadsMade.refl s).then_fetchCycle.then_dummyRead (s.pc + 1)
  refine ⟨withAccumulator f s, exec_of_modifyFn_accumulator hmode hf s, ?_⟩
  rw [hrun]
  refine ⟨⟨rfl, rfl, rfl, rfl, rfl, ?pc, fun _ => rfl⟩, ⟨rfl, rfl, rfl, rfl, rfl, rfl⟩, hmade⟩
  case pc => simp [next, Instr.length, hmode, Mode.length]

end Sys2Proof.Proofs

/-! ### ASL, LSR, ROL, ROR (43_shift_rotate.md R150 to R154) -/

namespace Sys2Proof.Proofs

open Sys2Proof.Machine Sys2Proof.Spec

/-- A list of codes with every row of some mnemonics has every instruction of them (30_encoding.md R96). -/
theorem mem_codes_of_row_mem {mnemonics : List Mnemonic} {codes : List (Mnemonic × Mode × Byte)}
    (hrows : ∀ r ∈ opcodeTable, r.mnemonic ∈ mnemonics → (r.mnemonic, r.mode, r.opcode) ∈ codes) {i : Instr}
    (h : i.mnemonic ∈ mnemonics) : (i.mnemonic, i.mode, i.opcode) ∈ codes := by
  obtain ⟨r, hmem, hmnemonic, hmode, hopcode⟩ := exists_row_of_instr i
  rw [hmnemonic] at h ⊢
  rw [hmode, hopcode]
  exact hrows r hmem h

/-- The rows of the opcode table with the mnemonic of a shift or rotate are the 20 forms. -/
theorem row_mem_codesShift : ∀ r ∈ opcodeTable, r.mnemonic ∈ [Mnemonic.ASL, .LSR, .ROL, .ROR] →
    (r.mnemonic, r.mode, r.opcode) ∈ codesShift := by
  simp only [opcodeTable, List.forall_mem_append]
  and_intros <;> decide

theorem mem_codesShift {i : Instr} (h : i.mnemonic ∈ [Mnemonic.ASL, .LSR, .ROL, .ROR]) :
    (i.mnemonic, i.mode, i.opcode) ∈ codesShift := mem_codes_of_row_mem row_mem_codesShift h

/-! The bit shifted out, and a shift to the left within the byte -/

theorem getLsbD_seven_eq_decide (v : Byte) : v.getLsbD 7 = decide (128 ≤ v.toNat) := BitVec.msb_eq_decide v

theorem getLsbD_zero_eq_decide (v : Byte) : v.getLsbD 0 = decide (v.toNat % 2 = 1) := Nat.testBit_zero v.toNat

theorem ofNat_mod_256 (n : Nat) : BitVec.ofNat 8 (n % 256) = BitVec.ofNat 8 n :=
  BitVec.eq_of_toNat_eq (by simp)

/-- The functions of the model compute the result of a shift or rotate, N and Z from it and the bit shifted out. -/
theorem modifyFn_of_shifted {m : Mnemonic} {v : Byte} {p : Status} {r : Nat} {c : Bool}
    (h : shifted m v.toNat p.c = some (r, c)) :
    m ∈ [Mnemonic.ASL, .LSR, .ROL, .ROR] ∧
      ∃ f, modifyFn m = some f ∧ f v p = (BitVec.ofNat 8 r, nz { p with c := c } (BitVec.ofNat 8 r)) := by
  cases m <;> cases h
  case ASL =>
    refine ⟨by decide, asl, rfl, ?_⟩
    rw [asl, setNZ_eq_nz, getLsbD_seven_eq_decide, ofNat_mod_256, Nat.mul_comm]
  case LSR =>
    refine ⟨by decide, lsr, rfl, ?_⟩
    rw [lsr, setNZ_eq_nz, getLsbD_zero_eq_decide]
  case ROL =>
    refine ⟨by decide, rol, rfl, ?_⟩
    rw [rol, setNZ_eq_nz, getLsbD_seven_eq_decide, Nat.mul_comm]
  case ROR =>
    refine ⟨by decide, ror, rfl, ?_⟩
    rw [ror, setNZ_eq_nz, getLsbD_zero_eq_decide]

/-- Settles O23: result and carry fix what is computed; where it goes and what stays is that of any instruction that
modifies A or a byte of memory. -/
theorem shiftsAndRotates : Obligations.ShiftsAndRotates := by
  refine fun i s r c => ⟨fun hmode hr => ?_, fun m hm hr => ?_⟩
  · obtain ⟨hmnemonic, f, hf, hfr⟩ := modifyFn_of_shifted hr
    exact ⟨mem_codesShift hmnemonic, yields_of_modifyFn_accumulator hmode hf hfr⟩
  · obtain ⟨hmnemonic, f, hf, hfr⟩ := modifyFn_of_shifted hr
    exact ⟨mem_codesShift hmnemonic, yields_of_modifyFn hm hf hfr⟩

end Sys2Proof.Proofs

/-! ### BIT (44_branch_bittest.md R169) -/

namespace Sys2Proof.Proofs

open Sys2Proof.Machine Sys2Proof.Spec Sys2Proof.Laws

/-- The rows of the opcode table with the mnemonic BIT are the two forms. -/
theorem row_mem_codesBit : ∀ r ∈ opcodeTable, r.mnemonic ∈ [Mnemonic.BIT] →
    (r.mnemonic, r.mode, r.opcode) ∈ codesBit := by
  simp only [opcodeTable, List.forall_mem_append]
  and_intros <;> decide

/-- Z says whether the bytes have no bit in common; N and V are bits of the datum itself. -/
theorem bitTest_eq (a m : Byte) (p : Status) :
    bitTest a m p =
      { p with z := decide (a.toNat &&& m.toNat = 0), n := m.toNat.testBit 7, v := m.toNat.testBit 6 } := by
  have hz : (a &&& m == 0#8) = decide (a.toNat &&& m.toNat = 0) := by
    simp [BitVec.toNat_eq, Bool.beq_eq_decide_eq]
  rw [bitTest, hz]
  rfl

/-- Settles O25: BIT is an instruction that reads a datum, and its act changes nothing but Z, N and V. -/
theorem bitTestsMemory : Obligations.BitTestsMemory := by
  intro i o s hmnemonic ho
  have ha : readAct i.mnemonic = some bitAct := by rw [hmnemonic, readAct]
  refine ⟨mem_codes_of_row_mem row_mem_codesBit (by simp [hmnemonic]), ?_⟩
  simpa [withRead_eq, bitAct, bitTest_eq] using yields_of_readAct ho ha s

end Sys2Proof.Proofs

/-! ### The eight branches (44_branch_bittest.md R160 to R168, 40_addressing_modes.md R118, R123) -/

namespace Sys2Proof.Proofs

open Sys2Proof.Machine Sys2Proof.Spec Sys2Proof.Laws

/-! What branches -/

/-- The rows of the opcode table with the mnemonic of a branch are the eight forms. -/
theorem row_mem_codesBranch : ∀ r ∈ opcodeTable,
    r.mnemonic ∈ [Mnemonic.BCC, .BCS, .BEQ, .BNE, .BVC, .BVS, .BPL, .BMI] →
    (r.mnemonic, r.mode, r.opcode) ∈ codesBranch := by
  simp only [opcodeTable, List.forall_mem_append]
  and_intros <;> decide

/-- The mnemonics with a condition are those of the branches. -/
theorem mem_branches_of_branchCond {m : Mnemonic} {p : Status} {taken : Bool} (h : branchCond m p = some taken) :
    m ∈ [Mnemonic.BCC, .BCS, .BEQ, .BNE, .BVC, .BVS, .BPL, .BMI] := by
  cases m <;> cases h <;> decide

/-- The mnemonics that branch do nothing else. -/
theorem eq_none_of_branchCond {m : Mnemonic} {p : Status} {taken : Bool} (h : branchCond m p = some taken) :
    (∀ s, storedReg m s = none) ∧ modifyFn m = none ∧ impliedAct m = none ∧ ∀ q, flagged m q = none := by
  cases m <;> cases h <;> exact ⟨fun _ => rfl, rfl, rfl, fun _ => rfl⟩

/-- What such an instruction runs: a branch whose condition on P is the one of its mnemonic. -/
theorem exec_of_branchCond {i : Instr} {off : Byte} {s : State} {taken : Bool}
    (hc : branchCond i.mnemonic s.p = some taken) (ho : i.operands = [off]) :
    ∃ cond : Status → Bool, cond s.p = taken ∧ exec i s = .next (withBranch cond off s) := by
  obtain ⟨hstored, hmodify, himplied, hflagged⟩ := eq_none_of_branchCond hc
  cases exec_form i with
  | read _ ha _ => cases ha.symm.trans (readAct_eq_none_of_branchCond hc)
  | store _ hr _ => exact nomatch (hr s).symm.trans (hstored s)
  | modify _ hf _ | accumulator _ hf _ => cases hf.symm.trans hmodify
  | implied _ ha _ => cases ha.symm.trans himplied
  | flag _ hg _ => exact nomatch (hg s.p).symm.trans (hflagged s.p)
  | branch ho' hc' he =>
    cases ho.symm.trans ho'
    exact ⟨_, Option.some.inj ((hc' s.p).symm.trans hc), he s⟩
  | jmpAbs | jmpInd | jsr | rts | brk | rti => cases hc

/-! The target and its page in plain arithmetic -/

/-- The model's sign-extended addition is the signed sum modulo 65536 (00_scope.md R11, 92 D1). -/
theorem addSx_eq_branchTarget (s : State) (off : Byte) : addSx (s.pc + 2) off = branchTarget s off := by
  rw [addSx, BitVec.signExtend, branchTarget, BitVec.ofInt_add, BitVec.ofInt_add, BitVec.ofInt_natCast,
    BitVec.ofNat_toNat, BitVec.setWidth_eq]
  rfl

theorem hiByte_eq_high (w : Addr) : hiByte w = high w := by
  rw [hiByte, high, BitVec.extractLsb', Nat.shiftRight_eq_div_pow]

theorem branchCrosses_eq_decide (next target : Addr) :
    branchCrosses next target = decide (high target ≠ high next) := by
  rw [branchCrosses, hiByte_eq_high, hiByte_eq_high, bne, Bool.beq_eq_decide_eq, decide_not]

/-! What a branch does -/

theorem withBranch_of_not_taken {cond : Status → Bool} {s : State} (h : cond s.p = false) (off : Byte) :
    withBranch cond off s = fetchCycle (fetchCycle s) := by
  simp [withBranch, h]

theorem withBranch_of_taken {cond : Status → Bool} {s : State} (h : cond s.p = true) (off : Byte) :
    withBranch cond off s =
      setPc (branchTarget s off)
        (if branchCrosses (s.pc + 2) (branchTarget s off) then
          dummyRead (s.pc + 2) (dummyRead (s.pc + 2) (fetchCycle (fetchCycle s)))
        else dummyRead (s.pc + 2) (fetchCycle (fetchCycle s))) := by
  simp only [withBranch, fetchCycle_p, fetchCycle_pc, h, if_true, pc_add_one_add_one, addSx_eq_branchTarget]

theorem withBranch_pc (cond : Status → Bool) (off : Byte) (s : State) :
    (withBranch cond off s).pc = if cond s.p then branchTarget s off else s.pc + 2 := by
  cases h : cond s.p with
  | false => rw [withBranch_of_not_taken h]; exact pc_add_one_add_one s.pc
  | true => rw [withBranch_of_taken h]; rfl

theorem withBranch_mem (cond : Status → Bool) (off : Byte) (s : State) : (withBranch cond off s).mem = s.mem := by
  cases h : cond s.p with
  | false => rw [withBranch_of_not_taken h]; rfl
  | true => rw [withBranch_of_taken h, setPc_mem]; split <;> rfl

theorem withBranch_afterBrk (cond : Status → Bool) (off : Byte) (s : State) :
    (withBranch cond off s).afterBrk = s.afterBrk := by
  cases h : cond s.p with
  | false => rw [withBranch_of_not_taken h]; rfl
  | true => rw [withBranch_of_taken h, setPc_afterBrk]; split <;> rfl

/-- The accesses of a branch: two fetches, a dummy read if it is taken, one more on a page cross
(40_addressing_modes.md R118, R123). -/
def branchAccesses (s : State) (taken : Bool) (off : Byte) : List BusCycle :=
  [rd s 0 s.pc, rd s 1 (s.pc + 1)] ++
    if taken then [dr s 2 (s.pc + 2)] ++
      if high (branchTarget s off) = high (s.pc + 2) then [] else [dr s 3 (s.pc + 2)]
    else []

theorem made_withBranch (cond : Status → Bool) (off : Byte) (s : State) :
    Made s (withBranch cond off s) (branchAccesses s (cond s.p) off) := by
  have hfetched := readsMade_two_fetches s
  cases h : cond s.p with
  | false =>
    obtain ⟨hmade, _⟩ := hfetched
    rw [withBranch_of_not_taken h]
    exact hmade
  | true =>
    obtain ⟨hmade, _⟩ := (hfetched.then_dummyRead (s.pc + 2)).then_dummyReadIf
      (branchCrosses (s.pc + 2) (branchTarget s off)) (s.pc + 2)
    rw [withBranch_of_taken h]
    simpa [branchAccesses, branchCrosses_eq_decide, Made] using hmade

/-- Settles O36: the mnemonic gives the condition, and a branch on it changes PC alone by the accesses it makes. -/
theorem branchInstructions : Obligations.BranchInstructions := by
  intro i off s taken hc ho
  refine ⟨mem_codes_of_row_mem row_mem_codesBranch (mem_branches_of_branchCond hc), ?_⟩
  obtain ⟨cond, rfl, he⟩ := exec_of_branchCond hc ho
  obtain ⟨ha, hx, hy, hsp, hp⟩ := withBranch_regs cond off s
  obtain ⟨hboard, henv, hirq, hreset, hnmi⟩ := withBranch_samePlatform cond off s
  refine ⟨withBranch cond off s, he, ⟨ha, hx, hy, hsp, hp, withBranch_pc cond off s, ?mem⟩,
    ⟨hboard, hreset, hnmi, hirq, withBranch_afterBrk cond off s, henv⟩, made_withBranch cond off s⟩
  case mem => simp [withBranch_mem, stored]

end Sys2Proof.Proofs

/-! ### Jumps by reads alone: JMP, RTS and RTI (45_jump_interrupt.md R175, R176, R178, R182) -/

namespace Sys2Proof.Proofs

open Sys2Proof.Machine Sys2Proof.Spec Sys2Proof.Laws

/-! A write of a register makes no access -/

theorem ReadsMade.then_setSp {s u : State} {l : List BusCycle} (h : ReadsMade s u l) (v : Byte) :
    ReadsMade s (setSp v u) l := h

theorem ReadsMade.then_setPc {s u : State} {l : List BusCycle} (h : ReadsMade s u l) (v : Addr) :
    ReadsMade s (setPc v u) l := h

theorem ReadsMade.then_setP {s u : State} {l : List BusCycle} (h : ReadsMade s u l) (p : Status) :
    ReadsMade s (setP p u) l := h

/-- All that is left open by a jump that makes only reads is S, P and the PC it sets last. -/
theorem yields_of_reads {i : Instr} {s u : State} {sp : Byte} {p : Status} {pc : Addr} {l : List BusCycle}
    (he : exec i s = .next (setPc pc u)) (hmade : ReadsMade s u l) (hsp : u.sp = sp) (hp : u.p = p)
    (hkept : u.a = s.a ∧ u.x = s.x ∧ u.y = s.y ∧ u.mem = s.mem) (hrest : Rest s u) :
    Yields i s s.a s.x s.y sp p pc [] l := by
  obtain ⟨ha, hx, hy, hmem⟩ := hkept
  obtain ⟨hmade_pc, _⟩ := hmade.then_setPc pc
  refine ⟨setPc pc u, he, ⟨ha, hx, hy, hsp, hp, setPc_pc pc u, fun n => ?_⟩, hrest, hmade_pc⟩
  rw [setPc_mem, hmem, stored]

/-! What JMP does -/

/-- The pointer's second byte lies in the page of its first: no carry into the high byte (45_jump_interrupt.md R176). -/
theorem word_add8_one (h l : Byte) : word h (add8 l 1) = BitVec.ofNat 16 (256 * h.toNat + (l.toNat + 1) % 256) := by
  rw [word, add8, BitVec.toNat_add]
  rfl

theorem exec_jmpAbs_eq (lo hi : Byte) (s : State) :
    exec (.jmpAbs lo hi) s = .next (setPc (word hi lo) (fetchCycle (fetchCycle (fetchCycle s)))) := by
  rw [exec_jmpAbs, execJmpAbs, mkAddr_eq_word]

theorem exec_jmpInd_eq (lo hi : Byte) (s : State) :
    let second : Addr := BitVec.ofNat 16 (256 * hi.toNat + (lo.toNat + 1) % 256)
    exec (.jmpInd lo hi) s = .next
      (setPc (word (busValue s (s.clock + 4) second) (busValue s (s.clock + 3) (word hi lo)))
        (memRead second (memRead (word hi lo) (fetchCycle (fetchCycle (fetchCycle s)))).2).2) := by
  simp only [exec_jmpInd, execJmpInd, mkAddr_eq_word, word_add8_one, memRead_value, memRead_clock, busValue_memRead,
    fetchCycle_clock, busValue_fetchCycle, Nat.add_assoc, Nat.reduceAdd]

/-- Settles O37: PC is the operand or what two reads answer, and the rest of the state is that of the fetches. -/
theorem jumpInstructions : Obligations.JumpInstructions := by
  intro lo hi s second
  have hfetched := readsMade_three_fetches s
  have hpointer := (hfetched.then_memRead (word hi lo)).then_memRead second
  exact ⟨yields_of_reads (exec_jmpAbs_eq lo hi s) hfetched (by simp) (by simp) (by simp) (by simp [Rest]),
    yields_of_reads (exec_jmpInd_eq lo hi s) hpointer (by simp) (by simp) (by simp) (by simp [Rest]), rfl, rfl⟩

/-! What the returns do -/

/-- The increment of S and the read above it (20_memory.md R69). -/
theorem ReadsMade.then_pull {s u : State} {l : List BusCycle} (h : ReadsMade s u l) :
    ReadsMade s (pull u).2 (l ++ [rd s l.length (stk (u.sp + 1))]) := by
  rw [← stackAddr_eq_stk]
  exact (h.then_setSp _).then_memRead _

/-- S after two and after three pulls, modulo 256. -/
theorem sp_add_one_add_one (v : Byte) : v + 1 + 1 = v + 2 := BitVec.add_assoc v 1 1
theorem sp_add_two_add_one (v : Byte) : v + 2 + 1 = v + 3 := BitVec.add_assoc v 2 1

/-- The state in which RTS and RTI begin to pull. -/
def beforePulls (s : State) : State := dummyRead (stk s.sp) (dummyRead (s.pc + 1) (fetchCycle s))

theorem readsMade_beforePulls (s : State) :
    ReadsMade s (beforePulls s) [rd s 0 s.pc, dr s 1 (s.pc + 1), dr s 2 (stk s.sp)] :=
  ((ReadsMade.refl s).then_fetchCycle.then_dummyRead _).then_dummyRead _

theorem exec_rts_eq (s : State) :
    let target := word (busValue s (s.clock + 4) (stk (s.sp + 2))) (busValue s (s.clock + 3) (stk (s.sp + 1)))
    exec .rts s = .next (setPc (target + 1) (dummyRead target (pull (pull (beforePulls s)).2).2)) := by
  simp only [exec_rts, execRts, beforePulls, mkAddr_eq_word, stackAddr_eq_stk, pull_value, pull_sp, pull_clock,
    busValue_pull, dummyRead_sp, dummyRead_clock, busValue_dummyRead, fetchCycle_sp, fetchCycle_pc, fetchCycle_clock,
    busValue_fetchCycle, sp_add_one_add_one, Nat.add_assoc, Nat.reduceAdd]

theorem readsMade_two_pulls (s : State) :
    ReadsMade s (pull (pull (beforePulls s)).2).2
      [rd s 0 s.pc, dr s 1 (s.pc + 1), dr s 2 (stk s.sp), rd s 3 (stk (s.sp + 1)), rd s 4 (stk (s.sp + 2))] := by
  rw [← sp_add_one_add_one]
  exact (readsMade_beforePulls s).then_pull.then_pull

/-- Settles O39: two pulls give the address, one more dummy read is made there. -/
theorem rtsPullsAndIncrements : Obligations.RtsPullsAndIncrements := by
  intro s target
  have hsp : (pull (pull (beforePulls s)).2).2.sp = s.sp + 2 := sp_add_one_add_one s.sp
  exact ⟨yields_of_reads (exec_rts_eq s) ((readsMade_two_pulls s).then_dummyRead target) hsp
    (by simp [beforePulls]) (by simp [beforePulls]) (by simp [Rest, beforePulls]), rfl⟩

/-- The flags of a pulled byte are its bits (10_state.md R24). -/
theorem ofByte_eq_flagsOf (v : Byte) : Status.ofByte v = flagsOf v := rfl

/-- P as a byte is the sum of its bits' weights (10_state.md R24). -/
theorem toByte_eq_pByte (p : Status) : p.toByte = pByte p := by
  obtain ⟨n, v, b, d, i, z, c⟩ := p
  revert n v b d i z c
  decide

/-- A byte through P and back: bit 5 reads 1, every other bit returns (10_state.md R25, D14). -/
theorem toByte_ofByte (v : Byte) : (Status.ofByte v).toByte = v ||| 0x20 := by
  apply BitVec.eq_of_getLsbD_eq
  intro i hi
  rw [Status.toByte, Status.ofByte]
  simp only [BitVec.getLsbD_append, BitVec.getLsbD_ofBool]
  interval_cases i <;> simp

theorem exec_rti_eq (s : State) :
    exec .rti s = .next
      (setPc (word (busValue s (s.clock + 5) (stk (s.sp + 3))) (busValue s (s.clock + 4) (stk (s.sp + 2))))
        (pull (pull (setP (flagsOf (busValue s (s.clock + 3) (stk (s.sp + 1)))) (pull (beforePulls s)).2)).2).2) := by
  simp only [exec_rti, execRti, returnFromInterrupt, beforePulls, ofByte_eq_flagsOf, mkAddr_eq_word, stackAddr_eq_stk,
    pull_value, pull_sp, pull_clock, busValue_pull, setP_sp, setP_clock, busValue_setP, dummyRead_sp, dummyRead_clock,
    busValue_dummyRead, fetchCycle_sp, fetchCycle_pc, fetchCycle_clock, busValue_fetchCycle, sp_add_one_add_one,
    sp_add_two_add_one, Nat.add_assoc, Nat.reduceAdd]

/-- Settles O43: three pulls, the first of which gives P. -/
theorem rtiRestoresStatusAndPc : Obligations.RtiRestoresStatusAndPc := by
  intro s v
  have hmade := ((readsMade_beforePulls s).then_pull.then_setP (flagsOf v)).then_pull.then_pull
  have hsp : (pull (pull (setP (flagsOf v) (pull (beforePulls s)).2)).2).2.sp = s.sp + 3 := by
    simp only [pull_sp, setP_sp, beforePulls, dummyRead_sp, fetchCycle_sp, sp_add_one_add_one, sp_add_two_add_one]
  have hbyte : (pByte (flagsOf v)).toNat = v.toNat ||| 32 := by
    rw [← toByte_eq_pByte, ← ofByte_eq_flagsOf, toByte_ofByte, BitVec.toNat_or]
    rfl
  refine ⟨yields_of_reads (exec_rti_eq s) ?_ hsp rfl (by simp [beforePulls]) (by simp [Rest, beforePulls]), hbyte, rfl⟩
  rw [← sp_add_two_add_one, ← sp_add_one_add_one]
  exact hmade

end Sys2Proof.Proofs

/-! ### Pushes: JSR and BRK (45_jump_interrupt.md R177, R179, R181) -/

namespace Sys2Proof.Proofs

open Sys2Proof.Machine Sys2Proof.Spec Sys2Proof.Laws

/-! Addresses in plain arithmetic -/

theorem loByte_eq_low (w : Addr) : loByte w = low w := by
  rw [loByte, low, BitVec.extractLsb', Nat.shiftRight_zero, ofNat_mod_256]

/-- An address is its two bytes (00_scope.md R9). -/
theorem word_high_low (w : Addr) : word (high w) (low w) = w := by
  apply BitVec.eq_of_toNat_eq
  have hw : w.toNat < 65536 := w.isLt
  simp only [word, high, low, BitVec.toNat_ofNat]
  omega

theorem stk_toNat (v : Byte) : (stk v).toNat = 256 + v.toNat := by
  have hv : v.toNat < 256 := v.isLt
  rw [stk, BitVec.toNat_ofNat]
  omega

/-- The interrupt vectors lie outside the stack page (20_memory.md R62). -/
theorem ne_stk_of_le {a : Addr} (ha : 512 ≤ a.toNat) (v : Byte) : a ≠ stk v := by
  rintro rfl
  have hv : v.toNat < 256 := v.isLt
  rw [stk_toNat] at ha
  omega

theorem stk_sub_one_ne (v : Byte) : (stk v).toNat ≠ (stk (v - 1)).toNat := by
  rw [stk_toNat, stk_toNat]
  bv_omega

/-- S after two and after three pushes, modulo 256. -/
theorem sp_sub_one_sub_one (v : Byte) : v - 1 - 1 = v - 2 := by bv_omega
theorem sp_sub_two_sub_one (v : Byte) : v - 2 - 1 = v - 3 := by bv_omega

/-! What the bus answers after stores -/

/-- The bus after some stores: a device answers as before, memory what it then holds (20_memory.md R64, R74). -/
def answerAfter (s : State) (stores : List (Addr × Byte)) (n : Nat) (a : Addr) : Byte :=
  if targetAt s.board a = .device then busValue s n a else stored s stores a.toNat

theorem stored_of_forall_ne {s : State} {stores : List (Addr × Byte)} {a : Addr} (h : ∀ e ∈ stores, a ≠ e.1) :
    stored s stores a.toNat = Memory.read s.mem a.toNat := by
  induction stores with
  | nil => rfl
  | cons e rest ih =>
    obtain ⟨hne, hrest⟩ := List.forall_mem_cons.1 h
    rw [stored, if_neg fun hc => hne (BitVec.eq_of_toNat_eq hc.1), ih hrest]

/-- A store elsewhere is not seen. -/
theorem answerAfter_of_forall_ne {s : State} {stores : List (Addr × Byte)} {a : Addr} (h : ∀ e ∈ stores, a ≠ e.1)
    (n : Nat) : answerAfter s stores n a = busValue s n a := by
  rw [answerAfter, stored_of_forall_ne h]
  split
  · rfl
  next hplain => exact (busValue_plain s n a hplain).symm

/-! Writes and reads of the bus, one after another -/

/-- From `s` to `t` exactly the accesses `l` were made, memory is that of `s` with the stores given, and the address map is
the same: `ReadsMade` for accesses that may write. -/
def StoresMade (s t : State) (stores : List (Addr × Byte)) (l : List BusCycle) : Prop :=
  Made s t l ∧ t.board = s.board ∧ ∀ n, Memory.read t.mem n = stored s stores n

namespace StoresMade

variable {s u : State} {stores : List (Addr × Byte)} {l : List BusCycle}

theorem of_readsMade (h : ReadsMade s u l) (hboard : u.board = s.board) (hmem : u.mem = s.mem) :
    StoresMade s u [] l := by
  obtain ⟨hmade, _⟩ := h
  exact ⟨hmade, hboard, fun n => by rw [hmem, stored]⟩

theorem busValue_eq (h : StoresMade s u stores l) (n : Nat) (a : Addr) :
    busValue u n a = answerAfter s stores n a := by
  obtain ⟨_, hboard, hmem⟩ := h
  rw [answerAfter, ← hboard]
  split
  next hdevice => rw [busValue, busValue, ← hboard, hdevice]
  next hplain => rw [busValue_plain u n a hplain, hmem]

/-- What one more access adds to the record, whatever it stores. -/
theorem then_access {t : State} (h : StoresMade s u stores l) (c : BusCycle) (hcycles : t.cycles = u.cycles ++ [c])
    (hclock : t.clock = u.clock + 1) (hboard : t.board = u.board) : Made s t (l ++ [c]) ∧ t.board = s.board := by
  obtain ⟨⟨hcycles_u, hclock_u⟩, hboard_u, _⟩ := h
  refine ⟨⟨?_, ?_⟩, hboard.trans hboard_u⟩
  · rw [hcycles, hcycles_u, List.append_assoc]
  · rw [hclock, hclock_u, List.length_append, List.length_singleton, Nat.add_assoc]

theorem then_setPc (h : StoresMade s u stores l) (v : Addr) : StoresMade s (setPc v u) stores l := h

theorem then_setP (h : StoresMade s u stores l) (p : Status) : StoresMade s (setP p u) stores l := h

theorem then_memRead (h : StoresMade s u stores l) (a : Addr) :
    StoresMade s (memRead a u).2 stores (l ++ [⟨.read, a, answerAfter s stores (s.clock + l.length) a⟩]) := by
  have ⟨⟨_, hclock⟩, _, hmem⟩ := h
  obtain ⟨hmade, hboard⟩ := h.then_access (t := (memRead a u).2) _ (memRead_cycles a u) (memRead_clock a u)
    (memRead_board a u)
  rw [h.busValue_eq, hclock] at hmade
  exact ⟨hmade, hboard, hmem⟩

/-- A push stores at S (20_memory.md R68). -/
theorem then_push (h : StoresMade s u stores l) (v : Byte) :
    StoresMade s (push v u) ((stk u.sp, v) :: stores) (l ++ [⟨.write, stk u.sp, v⟩]) := by
  have ⟨_, hboard_u, hmem⟩ := h
  obtain ⟨hmade, hboard⟩ := h.then_access (t := push v u) _ (push_cycles v u) (push_clock v u) (push_board v u)
  rw [stackAddr_eq_stk] at hmade
  refine ⟨hmade, hboard, fun n => ?_⟩
  obtain ⟨_, hpush, _⟩ := pushAndPull v u
  rw [hpush, stored, stored, stored, hboard_u, hmem]

/-- PC and P saved on the stack by an interrupt (60_exceptions.md R255, cycles 3 to 5). -/
theorem then_interruptSave (h : StoresMade s u stores l) {k : InterruptKind} (hk : k ≠ .reset) :
    StoresMade s (interruptSave k u)
      ((stk (u.sp - 2), pByte u.p) :: (stk (u.sp - 1), low u.pc) :: (stk u.sp, high u.pc) :: stores)
      (l ++ [⟨.write, stk u.sp, high u.pc⟩, ⟨.write, stk (u.sp - 1), low u.pc⟩, ⟨.write, stk (u.sp - 2), pByte u.p⟩]) := by
  have hpushed := ((h.then_push (high u.pc)).then_push (low u.pc)).then_push (pByte u.p)
  simp only [push_sp, sp_sub_one_sub_one, List.append_assoc, List.cons_append, List.nil_append] at hpushed
  cases k with
  | reset => exact absurd rfl hk
  | nmi | irq | brk =>
    simpa only [interruptSave, hiByte_eq_high, loByte_eq_low, toByte_eq_pByte] using hpushed

/-- The vector is read as it was before stores on the stack (60_exceptions.md R250). -/
theorem busValue_vector (h : StoresMade s u stores l) (hstack : ∀ e ∈ stores, ∃ v, e.1 = stk v) {a : Addr}
    (ha : 512 ≤ a.toNat) (n : Nat) : busValue u n a = busValue s n a := by
  rw [h.busValue_eq]
  refine answerAfter_of_forall_ne (fun e he => ?_) n
  obtain ⟨v, hv⟩ := hstack e he
  rw [hv]
  exact ne_stk_of_le ha v

/-- PC from the vector (60_exceptions.md R255, cycles 6 and 7). -/
theorem then_loadVector (h : StoresMade s u stores l) (hstack : ∀ e ∈ stores, ∃ v, e.1 = stk v) (k : InterruptKind) :
    StoresMade s (loadVector k u) stores
        (l ++ [rd s l.length (vectorAddr k), rd s (l.length + 1) (vectorAddr k + 1)]) ∧
      (loadVector k u).pc = word (busValue s (s.clock + (l.length + 1)) (vectorAddr k + 1))
        (busValue s (s.clock + l.length) (vectorAddr k)) := by
  have hbus {a : Addr} (ha : 512 ≤ a.toNat) (n : Nat) : busValue u n a = busValue s n a := h.busValue_vector hstack ha n
  have hlow : 512 ≤ (vectorAddr k).toNat := by cases k <;> decide
  have hhigh : 512 ≤ (vectorAddr k + 1).toNat := by cases k <;> decide
  have hread := ((h.then_memRead (vectorAddr k)).then_memRead (vectorAddr k + 1)).then_setPc (loadVector k u).pc
  simp only [List.append_assoc, List.cons_append, List.nil_append, List.length_append, List.length_singleton,
    ← h.busValue_eq, hbus hlow, hbus hhigh] at hread
  obtain ⟨⟨_, hclock⟩, _⟩ := h
  refine ⟨hread, ?_⟩
  rw [loadVector_pc, mkAddr_eq_word, hbus hlow, hbus hhigh, hclock, Nat.add_assoc]

end StoresMade

/-! What JSR does -/

/-- The state after JSR's two pushes of the address of its last byte (45_jump_interrupt.md R177). -/
def jsrPushed (s : State) : State :=
  push (low (s.pc + 2)) (push (high (s.pc + 2)) (dummyRead (stk s.sp) (fetchCycle (fetchCycle s))))

theorem exec_jsr_eq (lo hi : Byte) (s : State) :
    exec (.jsr lo hi) s = .next
      (setPc (word (busValue (jsrPushed s) (s.clock + 5) (s.pc + 2)) lo) (memRead (s.pc + 2) (jsrPushed s)).2) := by
  simp only [exec_jsr, execJsr, jsrPushed, mkAddr_eq_word, stackAddr_eq_stk, hiByte_eq_high, loByte_eq_low,
    memRead_value, push_pc, push_clock, dummyRead_pc, dummyRead_clock, fetchCycle_sp, fetchCycle_pc, fetchCycle_clock,
    pc_add_one_add_one, Nat.add_assoc, Nat.reduceAdd]

theorem storesMade_jsrPushed (s : State) :
    StoresMade s (jsrPushed s) [(stk (s.sp - 1), low (s.pc + 2)), (stk s.sp, high (s.pc + 2))]
      [rd s 0 s.pc, rd s 1 (s.pc + 1), dr s 2 (stk s.sp), ⟨.write, stk s.sp, high (s.pc + 2)⟩,
        ⟨.write, stk (s.sp - 1), low (s.pc + 2)⟩] := by
  have hread : ReadsMade s (dummyRead (stk s.sp) (fetchCycle (fetchCycle s)))
      [rd s 0 s.pc, rd s 1 (s.pc + 1), dr s 2 (stk s.sp)] := (readsMade_two_fetches s).then_dummyRead _
  have hpushed := ((StoresMade.of_readsMade hread rfl rfl).then_push (high (s.pc + 2))).then_push (low (s.pc + 2))
  simpa only [jsrPushed, push_sp, dummyRead_sp, fetchCycle_sp, List.cons_append, List.nil_append] using hpushed

theorem jsrPushed_sp (s : State) : (jsrPushed s).sp = s.sp - 2 := by
  simp only [jsrPushed, push_sp, dummyRead_sp, fetchCycle_sp, sp_sub_one_sub_one]

/-- Settles O38: the third byte is what the bus answers after the two pushes. -/
theorem jsrPushesAndJumps : Obligations.JsrPushesAndJumps := by
  intro lo hi s ret stores third
  have hpushed : StoresMade s (jsrPushed s) stores _ := storesMade_jsrPushed s
  have hthird : busValue (jsrPushed s) (s.clock + 5) ret = third := hpushed.busValue_eq _ _
  obtain ⟨hmade, _, hmem⟩ := (hpushed.then_memRead ret).then_setPc (word third lo)
  have hexec := exec_jsr_eq lo hi s
  rw [hthird] at hexec
  refine ⟨⟨_, hexec, ⟨?a, ?x, ?y, ?sp, ?p, rfl, hmem⟩, ?rest, hmade⟩, rfl⟩
  case sp => exact jsrPushed_sp s
  case rest => simp [Rest, jsrPushed]
  all_goals simp [jsrPushed]

/-! JSR and RTS pair up -/

/-- The two bytes that JSR pushed make its return address, one before the next instruction (45_jump_interrupt.md R179). -/
theorem word_stored_return {s : State} (hhigh : targetAt s.board (stk s.sp) = .memory)
    (hlow : targetAt s.board (stk (s.sp - 1)) = .memory) (w : Addr) :
    word (stored s [(stk (s.sp - 1), low w), (stk s.sp, high w)] (stk s.sp).toNat)
      (stored s [(stk (s.sp - 1), low w), (stk s.sp, high w)] (stk (s.sp - 1)).toNat) = w := by
  simp only [stored, hhigh, hlow, stk_sub_one_ne, false_and, and_self, if_true, if_false, word_high_low]

/-- Settles O40: the bytes that RTS pulls are those that JSR left, by what O38 and O39 say of the two. -/
theorem rtsResumesAfterJsr : Obligations.RtsResumesAfterJsr := by
  intro lo hi s t u hjsr hhigh hlow husp huboard hbyte_high hbyte_low
  obtain ⟨⟨t', hjsr', ⟨_, _, _, hsp, _, _, hmem⟩, ⟨hboard, _⟩, _⟩, _⟩ := jsrPushesAndJumps lo hi s
  cases hjsr.symm.trans hjsr'
  obtain ⟨⟨v, hrts, ⟨_, _, _, hvsp, _, hvpc, _⟩, _⟩, _⟩ := rtsPullsAndIncrements u
  have hsp_one : u.sp + 1 = s.sp - 1 := by rw [husp, hsp]; bv_omega
  have hsp_two : u.sp + 2 = s.sp := by rw [husp, hsp]; bv_omega
  have hbus {a : Addr} (ha : targetAt s.board a = .memory) (n : Nat) : busValue u n a = Memory.read u.mem a.toNat :=
    busValue_plain u n a (by rw [huboard, hboard, ha]; nofun)
  refine ⟨v, hrts, ?_, hvsp.trans hsp_two⟩
  rw [hvpc, hsp_one, hsp_two, hbus hhigh, hbus hlow, hbyte_high, hbyte_low, hmem, hmem, word_stored_return hhigh hlow]
  exact BitVec.add_assoc s.pc 2 1

/-! What BRK does -/

theorem exec_brk_of_masked {s : State} (h : s.p.i = true) :
    exec .brk s = .next (openReads (Config.ignoredBrkReads s.clock) (fetchCycle s)) := by
  simp only [exec_brk, execBrk, h, Config.brkMaskedByI, Bool.and_self, if_true]

theorem exec_brk_of_not_masked {s : State} (h : s.p.i = false) :
    exec .brk s = .next (interruptEntry .brk (fetchCycle s)) := by
  simp [exec_brk, execBrk, h]

theorem kind_of_mem_dummyReadCycles {s : State} {n : Nat} {addrs : List Addr} {c : BusCycle}
    (h : c ∈ dummyReadCycles s n addrs) : c.kind = .dummyRead := by
  induction addrs generalizing n with
  | nil => cases h
  | cons a rest ih =>
    obtain rfl | hrest := List.mem_cons.1 h
    · rfl
    · exact ih hrest

/-- Settles O42: after the opcode fetch only the reads that the spec leaves open are made. -/
theorem brkIgnoredWhenMasked : Obligations.BrkIgnoredWhenMasked := by
  intro s hi
  refine ⟨_, dummyReadCycles (fetchCycle s) (s.clock + 1) (Config.ignoredBrkReads s.clock), exec_brk_of_masked hi,
    ?regs, ?rest, ⟨?cycles, ?clock⟩, fun c => kind_of_mem_dummyReadCycles⟩
  case regs => simp [Regs, stored]
  case rest => simp [Rest]
  case cycles => simp [rd]
  case clock => simp [length_dummyReadCycles, Nat.add_assoc, Nat.add_comm]

/-- The state after BRK's three pushes of PC and P (45_jump_interrupt.md R181). -/
def brkSaved (s : State) : State := interruptSave .brk (interruptMarkB .brk (interruptLead .brk (fetchCycle s)))

/-- After its pushes a BRK sets I, takes the vector and is marked (60_exceptions.md R255, R266). -/
theorem interruptEntry_brk_eq (s : State) :
    interruptEntry .brk (fetchCycle s) =
      { loadVector .brk (setP { (brkSaved s).p with i := true } (brkSaved s)) with afterBrk := true } := by
  simp only [interruptEntry, interruptFinish, brkSaved]

theorem brkSaved_sp (s : State) : (brkSaved s).sp = s.sp - 3 := by
  simp only [brkSaved, interruptSave, push_sp, interruptMarkB_sp, interruptLead_sp, fetchCycle_sp, sp_sub_one_sub_one,
    sp_sub_two_sub_one]

theorem storesMade_brkSaved (s : State) :
    StoresMade s (brkSaved s)
      [(stk (s.sp - 2), pByte { s.p with b := true }), (stk (s.sp - 1), low (s.pc + 2)), (stk s.sp, high (s.pc + 2))]
      [rd s 0 s.pc, dr s 1 (s.pc + 1), ⟨.write, stk s.sp, high (s.pc + 2)⟩, ⟨.write, stk (s.sp - 1), low (s.pc + 2)⟩,
        ⟨.write, stk (s.sp - 2), pByte { s.p with b := true }⟩] := by
  have hread : ReadsMade s (interruptMarkB .brk (interruptLead .brk (fetchCycle s))) [rd s 0 s.pc, dr s 1 (s.pc + 1)] :=
    (((ReadsMade.refl s).then_fetchCycle.then_dummyRead _).then_setPc _).then_setP _
  have hpc : (interruptMarkB .brk (interruptLead .brk (fetchCycle s))).pc = s.pc + 2 := pc_add_one_add_one s.pc
  have hp : (interruptMarkB .brk (interruptLead .brk (fetchCycle s))).p = { s.p with b := true } := rfl
  have hsaved := (StoresMade.of_readsMade hread rfl rfl).then_interruptSave (k := .brk) nofun
  simpa only [brkSaved, hpc, hp, interruptMarkB_sp, interruptLead_sp, fetchCycle_sp, List.cons_append,
    List.nil_append] using hsaved

/-- Settles O41: the vector is read as it was before the pushes, which lie on the stack. -/
theorem brkTakenWhenNotMasked : Obligations.BrkTakenWhenNotMasked := by
  intro s hi ret pushed
  have hexec := exec_brk_of_not_masked hi
  obtain ⟨hboard, henv, hirq, hreset, hnmi⟩ := brk_samePlatform hexec
  obtain ⟨ha, hx, hy⟩ := interruptEntry_brk_regs (fetchCycle s)
  have hp := interruptEntry_brk_p (fetchCycle s)
  have hsaved := (storesMade_brkSaved s).then_setP { (brkSaved s).p with i := true }
  obtain ⟨⟨hmade, _, hmem⟩, hpc⟩ := hsaved.then_loadVector (by simp) .brk
  rw [interruptEntry_brk_eq] at hexec hboard henv hirq hreset hnmi ha hx hy hp
  exact ⟨_, hexec, ⟨ha, hx, hy, brkSaved_sp s, hp, hpc, hmem⟩, hboard, hreset, hnmi, hirq, henv, rfl, hmade⟩

end Sys2Proof.Proofs

/-! ### CMP, CPX, CPY (46_compare.md R190 to R193) -/

namespace Sys2Proof.Proofs

open Sys2Proof.Machine Sys2Proof.Spec Sys2Proof.Laws

/-- The rows of the opcode table with the mnemonic of a compare are the 14 forms. -/
theorem row_mem_codesCompare : ∀ r ∈ opcodeTable, r.mnemonic ∈ [Mnemonic.CMP, .CPX, .CPY] →
    (r.mnemonic, r.mode, r.opcode) ∈ codesCompare := by
  simp only [opcodeTable, List.forall_mem_append]
  and_intros <;> decide

/-- The difference has no borrow exactly if the register is at least the datum as unsigned bytes (46_compare.md R193). -/
theorem compare_eq (reg m : Byte) (p : Status) :
    Machine.compare reg m p =
      nz { p with c := decide (m.toNat ≤ reg.toNat) } (BitVec.ofInt 8 (reg.toNat - m.toNat)) := by
  have hborrow : (0 : Int) ≤ (reg.toNat : Int) - m.toNat ↔ m.toNat ≤ reg.toNat := by omega
  simp only [Machine.compare, setNZ_eq_nz, hborrow]

/-- A compare's mnemonic names the register, which is A, X or Y and so is the same once the datum is read. -/
theorem readAct_of_compared {m : Mnemonic} {s : State} {r : Byte} (h : compared m s = some r) :
    m ∈ [Mnemonic.CMP, .CPX, .CPY] ∧
      ∃ reg, readAct m = some (compareAct reg) ∧
        ∀ o : ReadOperand, reg (readOperand o (fetchCycle s)).2 = r := by
  cases m <;> cases h
  case CMP => exact ⟨by decide, State.a, rfl, fun o => by simp⟩
  case CPX => exact ⟨by decide, State.x, rfl, fun o => by simp⟩
  case CPY => exact ⟨by decide, State.y, rfl, fun o => by simp⟩

/-- Settles O24: the mnemonic fixes the register, and the act of an instruction that reads a datum then changes nothing
but C, N and Z. -/
theorem compareInstructions : Obligations.CompareInstructions := by
  intro i o s r ho hr
  obtain ⟨hmnemonic, reg, ha, hreg⟩ := readAct_of_compared hr
  refine ⟨mem_codes_of_row_mem row_mem_codesCompare hmnemonic, ?_⟩
  simpa [withRead_eq, compareAct, hreg, compare_eq] using yields_of_readAct ho ha s

end Sys2Proof.Proofs

/-! ### Boundaries and the mark of a BRK (60_exceptions.md R251 to R254, R260, R266) -/

namespace Sys2Proof.Proofs

open Sys2Proof.Machine Sys2Proof.Spec Sys2Proof.Laws

/-! What the boundary leaves alone -/

theorem atBoundary_p (s : State) : (atBoundary s).p = s.p := by
  simp only [atBoundary, sampleInputs]
  split <;> rfl

theorem atBoundary_afterBrk (s : State) : (atBoundary s).afterBrk = s.afterBrk := by
  simp only [atBoundary, sampleInputs]
  split <;> rfl

/-- An IRQ is taken only while I = 0 (60_exceptions.md R258). -/
theorem boundary_ne_irq {s : State} (hi : s.p.i = true) : boundary s ≠ .take .irq := by
  rcases boundary_cases s with ⟨hb, _⟩ | ⟨hb, _⟩ | ⟨hb, _⟩ | ⟨_, _, _, _, hclear⟩ | ⟨hb, _⟩
  case inr.inr.inr.inl => cases hi.symm.trans hclear
  all_goals rw [hb]; nofun

/-- BRK is an instruction and is taken at no boundary. -/
theorem boundary_ne_brk (s : State) : boundary s ≠ .take .brk := by
  rcases boundary_cases s with ⟨hb, _⟩ | ⟨hb, _⟩ | ⟨hb, _⟩ | ⟨hb, _⟩ | ⟨hb, _⟩ <;> rw [hb] <;> nofun

/-! What sets the mark -/

theorem interruptEntry_afterBrk (k : InterruptKind) (s : State) :
    (interruptEntry k s).afterBrk = true ↔ k = .brk := by
  cases k <;> simp [interruptEntry, interruptFinish, applyResetDraw]

theorem impliedAct_afterBrk {m : Mnemonic} {act : State → State} (h : impliedAct m = some act) (u : State) :
    (act u).afterBrk = u.afterBrk := by
  cases m <;> cases h <;> simp [loadA, loadX, loadY]

/-- No instruction but BRK touches the mark. -/
theorem exec_afterBrk_of_ne_brk {i : Instr} {s t : State} (h : exec i s = .next t) (hi : i ≠ .brk) :
    t.afterBrk = s.afterBrk := by
  cases exec_form i with
  | @read i o act _ ha he =>
    cases (he s).symm.trans h
    obtain ⟨_, _, _, _, _, _, hact, _⟩ := withRead_regsAndFlags ha o s
    simpa using hact
  | store _ _ he => cases (he s).symm.trans h; simp [withWrite]
  | modify _ _ he => cases (he s).symm.trans h; simp [withModify]
  | accumulator _ _ he => cases (he s).symm.trans h; simp [withAccumulator, withImplied]
  | implied _ ha he => cases (he s).symm.trans h; simp [withImplied, impliedAct_afterBrk ha]
  | flag _ _ he => cases (he s).symm.trans h; simp [withImplied]
  | branch _ _ he => cases (he s).symm.trans h; exact withBranch_afterBrk _ _ s
  | jmpAbs | jmpInd | jsr | rts => cases h; simp
  | rti => cases h; simp [returnFromInterrupt]
  | brk => exact absurd rfl hi

/-- A taken BRK sets the mark, an ignored one leaves it (60_exceptions.md R266). -/
theorem exec_brk_afterBrk {s t : State} (h : exec .brk s = .next t) (hs : s.afterBrk = false) :
    t.afterBrk = true ↔ s.p.i = false := by
  cases hi : s.p.i with
  | true =>
    cases (exec_brk_of_masked hi).symm.trans h
    simp [hs]
  | false =>
    cases (exec_brk_of_not_masked hi).symm.trans h
    simp [interruptEntry_afterBrk]

/-- An instruction leaves the mark of a BRK exactly if it is a BRK that is taken. -/
theorem exec_startInstr_afterBrk {i : Instr} {s t : State} (h : exec i (startInstr s) = .next t) :
    t.afterBrk = true ↔ i = .brk ∧ s.p.i = false := by
  by_cases hi : i = .brk
  · subst hi
    simpa using exec_brk_afterBrk h rfl
  · simp [exec_afterBrk_of_ne_brk h hi, hi]

/-- Settles O8: no boundary takes a BRK, so the mark comes from the instruction that the step ran. -/
theorem brkMarkSetByTakenBrk : Obligations.BrkMarkSetByTakenBrk := by
  intro s t h
  rcases step_next_cases h with ⟨kind, htake, rfl⟩ | ⟨hrun, i, hfetch, hexec⟩
  · have hkind : kind ≠ .brk := fun hk => boundary_ne_brk _ (hk ▸ htake)
    simp [interruptEntry_afterBrk, hkind, htake]
  · simp [exec_startInstr_afterBrk hexec, hrun, hfetch]

/-- A step that leaves the mark has set B and I (60_exceptions.md R255, R259). -/
theorem flags_of_step_afterBrk {s t : State} (h : step s = .next t) (ht : t.afterBrk = true) :
    t.p.i = true ∧ t.p.b = true := by
  obtain ⟨hrun, hfetch, hi⟩ := (brkMarkSetByTakenBrk s t h).1 ht
  have hexec : exec .brk (startInstr (atBoundary s)) = .next t := (step_of_boundary_run hrun hfetch).symm.trans h
  cases (exec_brk_of_not_masked (s := startInstr (atBoundary s)) hi).symm.trans hexec
  rw [interruptEntry_brk_p]
  exact ⟨rfl, rfl⟩

/-- Settles O10: the boundary does not change I, which the BRK has set. -/
theorem irqWaitsAfterBrk : Obligations.IrqWaitsAfterBrk := by
  intro s t h ht
  obtain ⟨hi, _⟩ := flags_of_step_afterBrk h ht
  exact boundary_ne_irq (by rw [atBoundary_p, hi])

/-! The invariant -/

theorem wf_storeOf (board : List Region) {m : Memory} (hm : Memory.wf m = true) (c : BusCycle) :
    Memory.wf (storeOf board m c) = true := by
  unfold storeOf
  split
  · exact wf_write _ _ _ (addr_lt c.addr) hm
  · exact hm

/-- Replaying accesses keeps the canonical form of memory. -/
theorem wf_foldl_storeOf (board : List Region) (l : List BusCycle) {m : Memory} (hm : Memory.wf m = true) :
    Memory.wf (l.foldl (storeOf board) m) = true := by
  induction l generalizing m with
  | nil => exact hm
  | cons c rest ih => exact ih (wf_storeOf board hm c)

/-- Settles O58: memory after a step is the replay of its accesses, and the mark is left by a taken BRK alone, which sets
B and I. -/
theorem stepKeepsInvariant : Obligations.StepKeepsInvariant := by
  intro s t ⟨hwf, _⟩ h
  obtain ⟨_, hmem⟩ := step_throughBus h
  refine ⟨?_, flags_of_step_afterBrk h⟩
  rw [hmem]
  exact wf_foldl_storeOf s.board t.cycles hwf

/-! Faults, priority and sampling -/

/-- Settles O7: of what a boundary leads to only the lost BRK faults; every instruction completes. -/
theorem faultExactlyWhenBrkIsInterrupted : Obligations.FaultExactlyWhenBrkIsInterrupted := by
  intro s r
  rcases boundary_cases (atBoundary s) with
    ⟨hb, hreset⟩ | ⟨hb, hreset, hnmi, hbrk⟩ | ⟨hb, _, _, hbrk⟩ | ⟨hb, _, hnmi, _⟩ | ⟨hb, _, hnmi, _⟩
  · simp [step, hb, hreset]
  · simp [step, hb, hreset, hnmi, hbrk]
  · simp [step, hb, hbrk]
  · simp [step, hb, hnmi]
  · simp only [step, hb, hnmi, Bool.false_eq_true, false_and, and_false, iff_false]
    split
    next i _ =>
      obtain ⟨t, ht⟩ := exec_completes i (startInstr (atBoundary s))
      rw [ht]
      nofun
    next => nofun

/-- Settles O9: the clauses are the branches of the model's test, in its order. -/
theorem boundaryPriority : Obligations.BoundaryPriority := by
  intro s
  refine ⟨fun hreset => ?_, fun hreset hnmi hbrk => ?_, fun hreset hnmi hbrk => ?_, fun hreset hnmi hirq hi => ?_,
    fun hreset hnmi hirq hi => ?_, boundary_of_quiet⟩
  · simp [boundary, hreset]
  · simp [boundary, hreset, hnmi, hbrk]
  · simp [boundary, hreset, hnmi, hbrk]
  · simp [boundary, hreset, hnmi, hirq, hi]
  · simp [boundary, hreset, hnmi, hi]

/-- The next change is consumed: it latches the requests and sets the IRQ level (60_exceptions.md R251 to R254). -/
theorem atBoundary_of_env_cons {s : State} {e : LineChange} {rest : List LineChange} (henv : s.env = e :: rest) :
    atBoundary s = { s with
      env := rest, cycles := [], resetReq := s.resetReq || e.reset, nmiPending := s.nmiPending || e.nmi, irqLine := e.irq } := by
  simp only [atBoundary, sampleInputs, henv]

/-- Settles O12, by the two cases of the coming changes. -/
theorem inputsSampledAtBoundary : Obligations.InputsSampledAtBoundary :=
  fun _ => ⟨atBoundary_of_env_nil, fun _ _ => atBoundary_of_env_cons⟩

/-- Settles O49: every form of instruction ends in a next state. -/
theorem everyInstructionCompletes : Obligations.EveryInstructionCompletes := exec_completes

end Sys2Proof.Proofs

/-! ### Instructions without an operand: registers and flags (47_incdec_flagops.md, 49_transfer_stack_nop.md) -/

namespace Sys2Proof.Proofs

open Sys2Proof.Machine Sys2Proof.Spec Sys2Proof.Laws

/-! What such an instruction runs -/

/-- The mnemonics that act on registers or the stack do nothing else. -/
theorem eq_none_of_impliedAct {m : Mnemonic} {act : State → State} (h : impliedAct m = some act) :
    (∀ s, storedReg m s = none) ∧ modifyFn m = none ∧ (∀ p, flagged m p = none) ∧ ∀ p, branchCond m p = none := by
  cases m <;> cases h <;> exact ⟨fun _ => rfl, rfl, fun _ => rfl, fun _ => rfl⟩

/-- The mnemonics that set or clear a flag do nothing else. -/
theorem eq_none_of_flagged {m : Mnemonic} {p q : Status} (h : flagged m p = some q) :
    (∀ s, storedReg m s = none) ∧ modifyFn m = none ∧ impliedAct m = none ∧ ∀ p', branchCond m p' = none := by
  cases m <;> cases h <;> exact ⟨fun _ => rfl, rfl, rfl, fun _ => rfl⟩

theorem exec_of_impliedAct {i : Instr} {act : State → State} (ha : impliedAct i.mnemonic = some act) (s : State) :
    exec i s = .next (withImplied act s) := by
  obtain ⟨hstored, hmodify, hflagged, hbranch⟩ := eq_none_of_impliedAct ha
  cases exec_form i with
  | read _ ha' _ => cases ha'.symm.trans (readAct_eq_none_of_impliedAct ha)
  | store _ hr _ => exact nomatch (hr s).symm.trans (hstored s)
  | modify _ hf _ | accumulator _ hf _ => cases hf.symm.trans hmodify
  | implied _ ha' he =>
    cases ha.symm.trans ha'
    exact he s
  | flag _ hg _ => exact nomatch (hg s.p).symm.trans (hflagged s.p)
  | branch _ hc _ => exact nomatch (hc s.p).symm.trans (hbranch s.p)
  | jmpAbs | jmpInd | jsr | rts | brk | rti => cases ha

theorem exec_of_flagged {i : Instr} {s : State} {p : Status} (hp : flagged i.mnemonic s.p = some p) :
    ∃ g : Status → Status, g s.p = p ∧ exec i s = .next (withImplied (fun u => setP (g u.p) u) s) := by
  obtain ⟨hstored, hmodify, himplied, hbranch⟩ := eq_none_of_flagged hp
  cases exec_form i with
  | read _ ha _ => cases ha.symm.trans (readAct_eq_none_of_flagged hp)
  | store _ hr _ => exact nomatch (hr s).symm.trans (hstored s)
  | modify _ hf _ | accumulator _ hf _ => cases hf.symm.trans hmodify
  | implied _ ha _ => cases ha.symm.trans himplied
  | flag _ hg he => exact ⟨_, Option.some.inj ((hg s.p).symm.trans hp), he s⟩
  | branch _ hc _ => exact nomatch (hc s.p).symm.trans (hbranch s.p)
  | jmpAbs | jmpInd | jsr | rts | brk | rti => cases hp

/-! What it does -/

/-- All that is left open by an instruction that, after some reads, changes registers and flags alone is their values. -/
theorem yields_of_regsAndFlags {i : Instr} {s u t : State} {l : List BusCycle} (he : exec i s = .next t)
    (hmade : ReadsMade s u l) (ht : RegsAndFlags u t) (hmem : u.mem = s.mem) (hrest : Rest s u) :
    Yields i s t.a t.x t.y t.sp t.p u.pc [] l := by
  obtain ⟨hpc, htmem, hboard, hreset, hnmi, hirq, hbrk, henv, hclock, hcycles⟩ := ht
  obtain ⟨⟨hucycles, huclock⟩, _⟩ := hmade
  refine ⟨t, he, ⟨rfl, rfl, rfl, rfl, rfl, hpc, fun n => ?mem⟩, ?rest,
    hcycles.trans hucycles, hclock.trans huclock⟩
  case mem => rw [htmem, hmem, stored]
  case rest => simpa [Rest, hboard, hreset, hnmi, hirq, hbrk, henv] using hrest

/-- The state in which such an instruction acts, after its opcode fetch and dummy read (40_addressing_modes.md R117). -/
def impliedStart (s : State) : State := dummyRead (s.pc + 1) (fetchCycle s)

theorem withImplied_eq (act : State → State) (s : State) : withImplied act s = act (impliedStart s) := rfl

theorem readsMade_impliedStart (s : State) : ReadsMade s (impliedStart s) (twoAccesses s) :=
  (ReadsMade.refl s).then_fetchCycle.then_dummyRead _

theorem rest_impliedStart (s : State) : Rest s (impliedStart s) := ⟨rfl, rfl, rfl, rfl, rfl, rfl⟩

theorem yields_of_implied {i : Instr} {s t : State} (he : exec i s = .next t)
    (ht : RegsAndFlags (impliedStart s) t) :
    Yields i s t.a t.x t.y t.sp t.p (s.pc + 1) [] (twoAccesses s) :=
  yields_of_regsAndFlags he (readsMade_impliedStart s) ht rfl (rest_impliedStart s)

section

variable {i : Instr} {act : State → State} {s : State} {v : Byte}

theorem yields_of_implied_loadA (ha : impliedAct i.mnemonic = some act)
    (hact : act (impliedStart s) = loadA v (impliedStart s)) :
    Yields i s v s.x s.y s.sp (nz s.p v) (s.pc + 1) [] (twoAccesses s) := by
  have he := exec_of_impliedAct ha s
  rw [withImplied_eq, hact] at he
  rw [← setNZ_eq_nz]
  exact yields_of_implied he (regsAndFlags_refl _)

theorem yields_of_implied_loadX (ha : impliedAct i.mnemonic = some act)
    (hact : act (impliedStart s) = loadX v (impliedStart s)) :
    Yields i s s.a v s.y s.sp (nz s.p v) (s.pc + 1) [] (twoAccesses s) := by
  have he := exec_of_impliedAct ha s
  rw [withImplied_eq, hact] at he
  rw [← setNZ_eq_nz]
  exact yields_of_implied he (regsAndFlags_refl _)

theorem yields_of_implied_loadY (ha : impliedAct i.mnemonic = some act)
    (hact : act (impliedStart s) = loadY v (impliedStart s)) :
    Yields i s s.a s.x v s.sp (nz s.p v) (s.pc + 1) [] (twoAccesses s) := by
  have he := exec_of_impliedAct ha s
  rw [withImplied_eq, hact] at he
  rw [← setNZ_eq_nz]
  exact yields_of_implied he (regsAndFlags_refl _)

end

theorem exec_txs_eq (s : State) : exec .txs s = .next (setSp s.x (impliedStart s)) := rfl

theorem exec_nop_eq (s : State) : exec .nop s = .next (impliedStart s) := rfl

/-- Settles O31: TXS alone sets no flag. -/
theorem transferInstructions : Obligations.TransferInstructions := by
  intro s
  have htxs := yields_of_implied (exec_txs_eq s) (regsAndFlags_refl _)
  exact ⟨yields_of_implied_loadX rfl rfl, yields_of_implied_loadA rfl rfl, yields_of_implied_loadY rfl rfl,
    yields_of_implied_loadA rfl rfl, yields_of_implied_loadX rfl rfl, htxs, rfl, rfl, rfl, rfl, rfl, rfl⟩

/-- Settles O35: nothing follows the two accesses. -/
theorem nopDoesNothing : Obligations.NopDoesNothing := fun s =>
  ⟨by simpa [impliedStart] using yields_of_implied (exec_nop_eq s) (regsAndFlags_refl _), rfl⟩

/-- One more and one less modulo 256, in plain arithmetic. -/
theorem add_one_eq_ofNat (v : Byte) : v + 1 = BitVec.ofNat 8 ((v.toNat + 1) % 256) :=
  BitVec.eq_of_toNat_eq (by simp)
theorem sub_one_eq_ofNat (v : Byte) : v - 1 = BitVec.ofNat 8 ((v.toNat + 255) % 256) :=
  BitVec.eq_of_toNat_eq (by simp [BitVec.toNat_sub, Nat.add_comm])

/-- Settles O27: each loads its register with the sum or difference. -/
theorem incrementsOfIndex : Obligations.IncrementsOfIndex := by
  intro s
  simp only [← add_one_eq_ofNat, ← sub_one_eq_ofNat]
  exact ⟨yields_of_implied_loadX rfl rfl, yields_of_implied_loadX rfl rfl, yields_of_implied_loadY rfl rfl,
    yields_of_implied_loadY rfl rfl, rfl, rfl, rfl, rfl⟩

/-- The rows of the opcode table with the mnemonic of a flag instruction are the seven forms. -/
theorem row_mem_codesFlag : ∀ r ∈ opcodeTable,
    r.mnemonic ∈ [Mnemonic.CLC, .SEC, .CLI, .SEI, .CLD, .SED, .CLV] →
    (r.mnemonic, r.mode, r.opcode) ∈ codesFlag := by
  simp only [opcodeTable, List.forall_mem_append]
  and_intros <;> decide

theorem mem_flagMnemonics_of_flagged {m : Mnemonic} {p q : Status} (h : flagged m p = some q) :
    m ∈ [Mnemonic.CLC, .SEC, .CLI, .SEI, .CLD, .SED, .CLV] := by
  cases m <;> cases h <;> decide

/-- Settles O28: after its two accesses a flag instruction writes P, by the function of its mnemonic. -/
theorem flagInstructions : Obligations.FlagInstructions := by
  intro i s p hp
  obtain ⟨g, rfl, he⟩ := exec_of_flagged hp
  exact ⟨mem_codes_of_row_mem row_mem_codesFlag (mem_flagMnemonics_of_flagged hp),
    yields_of_implied he (regsAndFlags_refl _)⟩

/-! Pushes -/

/-- One push after the two accesses (20_memory.md R68). -/
theorem yields_of_implied_push {i : Instr} {act : State → State} {s : State} {v : Byte}
    (ha : impliedAct i.mnemonic = some act) (hact : act (impliedStart s) = push v (impliedStart s)) :
    Yields i s s.a s.x s.y (s.sp - 1) s.p (s.pc + 1) [(stk s.sp, v)]
      [rd s 0 s.pc, dr s 1 (s.pc + 1), ⟨.write, stk s.sp, v⟩] := by
  have he := exec_of_impliedAct ha s
  rw [withImplied_eq, hact] at he
  obtain ⟨hmade, _, hmem⟩ := (StoresMade.of_readsMade (readsMade_impliedStart s) rfl rfl).then_push v
  refine ⟨_, he, ⟨?a, ?x, ?y, ?sp, ?p, ?pc, hmem⟩, ?rest, hmade⟩
  case rest => simp [Rest, impliedStart]
  all_goals simp [impliedStart]

/-- Settles O32: PHP's byte is P with B set. -/
theorem pushInstructions : Obligations.PushInstructions := by
  refine fun s => ⟨yields_of_implied_push rfl rfl, yields_of_implied_push rfl ?_, rfl, rfl⟩
  rw [← toByte_eq_pByte, ← toByte_or_break]
  rfl

/-! Pulls -/

/-- The state after the one pull of PLA or PLP (40_addressing_modes.md R117). -/
def pulledOnce (s : State) : State := (pull (beforePulls s)).2

theorem readsMade_pulledOnce (s : State) : ReadsMade s (pulledOnce s) (pullAccesses s) :=
  (readsMade_beforePulls s).then_pull

theorem yields_of_pulledOnce {i : Instr} {s t : State} (he : exec i s = .next t) (ht : RegsAndFlags (pulledOnce s) t) :
    Yields i s t.a t.x t.y t.sp t.p (s.pc + 1) [] (pullAccesses s) := by
  have hmem : (pulledOnce s).mem = s.mem := by simp [pulledOnce, beforePulls]
  have hrest : Rest s (pulledOnce s) := by simp [Rest, pulledOnce, beforePulls]
  simpa [pulledOnce, beforePulls] using yields_of_regsAndFlags he (readsMade_pulledOnce s) ht hmem hrest

theorem exec_pla_eq (s : State) :
    exec .pla s = .next (loadA (busValue s (s.clock + 3) (stk (s.sp + 1))) (pulledOnce s)) := by
  rw [exec_of_impliedAct (act := fun u => let r := pull (dummyRead (stackAddr u.sp) u); loadA r.1 r.2) rfl, pulledOnce,
    beforePulls, ← stackAddr_eq_stk, ← stackAddr_eq_stk]
  rfl

theorem exec_plp_eq (s : State) :
    exec .plp s = .next (setP (flagsOf (busValue s (s.clock + 3) (stk (s.sp + 1)))) (pulledOnce s)) := by
  rw [exec_of_impliedAct (act := fun u => let r := pull (dummyRead (stackAddr u.sp) u); setP (Status.ofByte r.1) r.2) rfl,
    pulledOnce, beforePulls, ← stackAddr_eq_stk, ← stackAddr_eq_stk, ← ofByte_eq_flagsOf]
  rfl

/-- Settles O33: the pulled byte is loaded into A. -/
theorem plaPullsAccumulator : Obligations.PlaPullsAccumulator := by
  intro s v
  have he : exec .pla s = .next (loadA v (pulledOnce s)) := exec_pla_eq s
  clear_value v
  exact ⟨by simpa [loadA, setNZ_eq_nz, pulledOnce, beforePulls] using yields_of_pulledOnce he (regsAndFlags_refl _), rfl⟩

/-- Settles O34: the pulled byte is loaded into the flags. -/
theorem plpPullsStatus : Obligations.PlpPullsStatus := by
  intro s v
  have he : exec .plp s = .next (setP (flagsOf v) (pulledOnce s)) := exec_plp_eq s
  clear_value v
  exact ⟨by simpa [pulledOnce, beforePulls] using yields_of_pulledOnce he (regsAndFlags_refl _), rfl⟩

end Sys2Proof.Proofs

/-! ### INC and DEC on memory (47_incdec_flagops.md R200, R201) -/

namespace Sys2Proof.Proofs

open Sys2Proof.Machine Sys2Proof.Spec

/-- The rows of the opcode table with the mnemonic INC or DEC are the eight forms. -/
theorem row_mem_codesIncDec : ∀ r ∈ opcodeTable, r.mnemonic ∈ [Mnemonic.INC, .DEC] →
    (r.mnemonic, r.mode, r.opcode) ∈ codesIncDec := by
  simp only [opcodeTable, List.forall_mem_append]
  and_intros <;> decide

/-- The functions of the model compute the result of INC or DEC, and N and Z from it. -/
theorem modifyFn_of_counted {m : Mnemonic} {v : Byte} {r : Nat} (h : counted m v.toNat = some r) :
    m ∈ [Mnemonic.INC, .DEC] ∧
      ∃ f, modifyFn m = some f ∧ ∀ p, f v p = (BitVec.ofNat 8 r, nz p (BitVec.ofNat 8 r)) := by
  cases m <;> cases h
  case INC =>
    refine ⟨by decide, increment, rfl, fun p => ?_⟩
    rw [increment, setNZ_eq_nz, add_one_eq_ofNat]
  case DEC =>
    refine ⟨by decide, decrement, rfl, fun p => ?_⟩
    rw [decrement, setNZ_eq_nz, sub_one_eq_ofNat]

/-- Settles O26: the result fixes what is computed; the rest is that of any instruction that modifies a byte of memory. -/
theorem incrementsOfMemory : Obligations.IncrementsOfMemory := by
  intro i m s r hm hr
  obtain ⟨hmnemonic, f, hf, hfr⟩ := modifyFn_of_counted hr
  exact ⟨mem_codes_of_row_mem row_mem_codesIncDec hmnemonic, yields_of_modifyFn hm hf (hfr s.p)⟩

end Sys2Proof.Proofs

/-! ### Loads and stores (48_load_store.md R220 to R225) -/

namespace Sys2Proof.Proofs

open Sys2Proof.Machine Sys2Proof.Spec Sys2Proof.Laws

/-! Loads -/

/-- The rows of the opcode table with the mnemonic of a load are the 18 forms. -/
theorem row_mem_codesLoad : ∀ r ∈ opcodeTable, r.mnemonic ∈ [Mnemonic.LDA, .LDX, .LDY] →
    (r.mnemonic, r.mode, r.opcode) ∈ codesLoad := by
  simp only [opcodeTable, List.forall_mem_append]
  and_intros <;> decide

/-- Settles O29: the mnemonic fixes the register that the act loads. -/
theorem loadInstructions : Obligations.LoadInstructions := by
  intro i o s ho
  have hcodes {m : Mnemonic} (hm : m ∈ [Mnemonic.LDA, .LDX, .LDY]) (h : i.mnemonic = m) :
      (i.mnemonic, i.mode, i.opcode) ∈ codesLoad := mem_codes_of_row_mem row_mem_codesLoad (h ▸ hm)
  refine ⟨fun h => ⟨hcodes (by decide) h, ?_⟩, fun h => ⟨hcodes (by decide) h, ?_⟩,
    fun h => ⟨hcodes (by decide) h, ?_⟩⟩
  · have ha : readAct i.mnemonic = some loadA := by rw [h, readAct]
    exact yields_of_loadA ho ha fun _ _ => rfl
  · have ha : readAct i.mnemonic = some loadX := by rw [h, readAct]
    simpa [withRead_eq, loadX, setNZ_eq_nz] using yields_of_readAct ho ha s
  · have ha : readAct i.mnemonic = some loadY := by rw [h, readAct]
    simpa [withRead_eq, loadY, setNZ_eq_nz] using yields_of_readAct ho ha s

/-! Stores -/

/-- The rows of the opcode table with the mnemonic of a store are the 13 forms. -/
theorem row_mem_codesStore : ∀ r ∈ opcodeTable, r.mnemonic ∈ [Mnemonic.STA, .STX, .STY] →
    (r.mnemonic, r.mode, r.opcode) ∈ codesStore := by
  simp only [opcodeTable, List.forall_mem_append]
  and_intros <;> decide

theorem mem_storeMnemonics_of_storedReg {m : Mnemonic} {s : State} {v : Byte} (h : storedReg m s = some v) :
    m ∈ [Mnemonic.STA, .STX, .STY] := by
  cases m <;> cases h <;> decide

/-- The mnemonics that store do nothing else. -/
theorem eq_none_of_storedReg {m : Mnemonic} {s : State} {v : Byte} (h : storedReg m s = some v) :
    modifyFn m = none ∧ impliedAct m = none ∧ (∀ p, flagged m p = none) ∧ ∀ p, branchCond m p = none := by
  cases m <;> cases h <;> exact ⟨rfl, rfl, fun _ => rfl, fun _ => rfl⟩

theorem exec_of_storedReg {i : Instr} {m : MemOperand} {s : State} {v : Byte} (hm : i.memOperand? = some m)
    (hv : storedReg i.mnemonic s = some v) :
    ∃ reg : State → Byte, (∀ u, storedReg i.mnemonic u = some (reg u)) ∧ exec i s = .next (withWrite m reg s) := by
  obtain ⟨hmodify, himplied, hflagged, hbranch⟩ := eq_none_of_storedReg hv
  cases exec_form i with
  | read _ ha _ => cases ha.symm.trans (readAct_eq_none_of_storedReg hv)
  | store hm' hr he =>
    cases hm.symm.trans hm'
    exact ⟨_, hr, he s⟩
  | modify _ hf _ | accumulator _ hf _ => cases hf.symm.trans hmodify
  | implied _ ha _ => cases ha.symm.trans himplied
  | flag _ hg _ => exact nomatch (hg s.p).symm.trans (hflagged s.p)
  | branch _ hc _ => exact nomatch (hc s.p).symm.trans (hbranch s.p)
  | jmpAbs | jmpInd | jsr | rts | brk | rti => cases hv

/-- Forming the address does not change the register that is stored. -/
theorem storedReg_resolve (mn : Mnemonic) (m : MemOperand) (s : State) :
    storedReg mn (resolve m (fetchCycle s)).2 = storedReg mn s := by
  cases mn <;> simp [storedReg]

/-- The register of the mnemonic goes to the address of the rule. -/
theorem withWrite_eq {mn : Mnemonic} {m : MemOperand} {reg : State → Byte} {s : State} {v : Byte}
    (hreg : ∀ u, storedReg mn u = some (reg u)) (hv : storedReg mn s = some v) :
    withWrite m reg s = memWrite (ea s m) v (resolve m (fetchCycle s)).2 := by
  have hval : reg (resolve m (fetchCycle s)).2 = v :=
    Option.some.inj (by rw [← hreg, storedReg_resolve, hv])
  rw [withWrite, hval, resolve_fetchCycle_addr]

/-- PC is past the operand bytes once the address is formed. -/
theorem resolve_fetchCycle_pc {i : Instr} {m : MemOperand} (hm : i.memOperand? = some m) (s : State) :
    (resolve m (fetchCycle s)).2.pc = next s i := by
  rw [resolve_pc, fetchCycle_pc, pc_after _ _ _ (length_of_memOperand hm), ofNat_toNat_add, next]

theorem StoresMade.then_memWrite {s u : State} {stores : List (Addr × Byte)} {l : List BusCycle}
    (h : StoresMade s u stores l) (a : Addr) (v : Byte) :
    StoresMade s (memWrite a v u) ((a, v) :: stores) (l ++ [⟨.write, a, v⟩]) := by
  have ⟨_, hboard_u, hmem⟩ := h
  obtain ⟨hmade, hboard⟩ := h.then_access (t := memWrite a v u) _ (memWrite_cycles a v u) (memWrite_clock a v u)
    (memWrite_board a v u)
  refine ⟨hmade, hboard, fun n => ?_⟩
  rw [read_memWrite, stored, stored, stored, hboard_u, hmem]

/-- Settles O30: after the accesses that form the address there is one write, of the register. -/
theorem storeInstructions : Obligations.StoreInstructions := by
  intro i m s v hm hv
  refine ⟨mem_codes_of_row_mem row_mem_codesStore (mem_storeMnemonics_of_storedReg hv), ?_⟩
  obtain ⟨reg, hreg, he⟩ := exec_of_storedReg hm hv
  rw [withWrite_eq hreg hv] at he
  obtain ⟨hmade, _, hmem⟩ :=
    (StoresMade.of_readsMade (readsMade_resolve m s) (by simp) (by simp)).then_memWrite (ea s m) v
  refine ⟨_, he, ⟨?a, ?x, ?y, ?sp, ?p, ?pc, hmem⟩, ?rest, hmade⟩
  case pc => rw [memWrite_pc, resolve_fetchCycle_pc hm]
  case rest => simp [Rest]
  all_goals simp

end Sys2Proof.Proofs

/-! ### ADC and SBC (41_arithmetic.md R130, R131) -/

namespace Sys2Proof.Proofs

open Sys2Proof.Machine Sys2Proof.Spec Sys2Proof.Laws

/-! The V flag -/

/-- A byte as a signed number, by its sign bit. -/
theorem toInt_eq_of_msb (v : Byte) : v.toInt = v.toNat - 256 * v.msb.toNat := by
  rw [BitVec.toInt_eq_msb_cond]
  cases v.msb <;> simp

/-- The signed sum leaves the range of a byte exactly if operands of one sign give a result of the other (93 G1). -/
theorem signedSum_out_of_range_iff (a m : Byte) (c : Bool) :
    (a.toInt + m.toInt + c.toNat < -128 ∨ 127 < a.toInt + m.toInt + c.toNat) ↔
      a.msb = m.msb ∧ (BitVec.ofNat 8 (a.toNat + m.toNat + c.toNat)).msb ≠ a.msb := by
  have ha : a.toNat < 256 := a.isLt
  have hm : m.toNat < 256 := m.isLt
  have hc : c.toNat ≤ 1 := c.toNat_le
  simp only [toInt_eq_of_msb, BitVec.msb_eq_decide, BitVec.toNat_ofNat, Nat.reducePow, Nat.reduceSub]
  by_cases hna : 128 ≤ a.toNat <;> by_cases hnm : 128 ≤ m.toNat <;> simp [hna, hnm] <;> omega

theorem getLsbD_seven_eq_msb (v : Byte) : v.getLsbD 7 = v.msb := rfl

/-- The bit formula of the model's ADC is the range of the signed sum. -/
theorem adc_eq (a m : Byte) (p : Status) :
    let sum := a.toNat + m.toNat + p.c.toNat
    let signed : Int := a.toInt + m.toInt + p.c.toNat
    adc a m p = (BitVec.ofNat 8 sum,
      nz { p with c := decide (255 < sum), v := decide (signed < -128 ∨ 127 < signed) } (BitVec.ofNat 8 sum)) := by
  simp only [adc, setNZ_eq_nz, getLsbD_seven_eq_msb, signedSum_out_of_range_iff, Bool.decide_and, decide_not, bne,
    Bool.beq_eq_decide_eq]

/-- A read whose act puts a result and flags into A and P changes nothing else. -/
theorem yields_of_putA {i : Instr} {o : ReadOperand} {act : Byte → State → State} {s : State} {r : Byte × Status}
    (ho : i.readOperand? = some o) (ha : readAct i.mnemonic = some act)
    (hact : ∀ u : State, u.a = s.a → u.p = s.p → act (datum s o) u = putA r u) :
    Yields i s r.1 s.x s.y s.sp r.2 (next s i) [] (readAccesses s o) := by
  have hread : withRead o act s = putA r (readOperand o (fetchCycle s)).2 := by
    rw [withRead_eq, hact _ (by simp) (by simp)]
  simpa [hread, putA] using yields_of_readAct ho ha s

/-! ADC -/

/-- The rows of the opcode table with the mnemonic ADC are the eight forms. -/
theorem row_mem_codesAdc : ∀ r ∈ opcodeTable, r.mnemonic ∈ [Mnemonic.ADC] →
    (r.mnemonic, r.mode, r.opcode) ∈ codesAdc := by
  simp only [opcodeTable, List.forall_mem_append]
  and_intros <;> decide

/-- Settles O19: ADC is an instruction that reads a datum, and its act puts the result and flags into A and P. -/
theorem adcAddsMemoryAndCarry : Obligations.AdcAddsMemoryAndCarry := by
  intro i o s hmnemonic ho m sum r signed
  have ha : readAct i.mnemonic = some addAct := by rw [hmnemonic, readAct]
  refine ⟨mem_codes_of_row_mem row_mem_codesAdc (by simp [hmnemonic]), ?_, signedSum_out_of_range_iff s.a m s.p.c⟩
  exact yields_of_putA ho ha fun u hua hup => by rw [addAct, hua, hup, adc_eq]

/-! SBC, as ADC with the complement -/

/-- The signed difference of SBC is the signed sum of ADC with the complement (41_arithmetic.md R133). -/
theorem signedDiff_eq_signedSum_not (a m : Byte) (c : Bool) :
    a.toInt - m.toInt - (1 - (c.toNat : Int)) = a.toInt + (~~~m).toInt + c.toNat := by
  have hnot : (~~~m).toInt = -m.toInt - 1 := by
    have hm : m.toNat < 256 := m.isLt
    rw [toInt_eq_of_msb, toInt_eq_of_msb, BitVec.msb_not, BitVec.toNat_not]
    cases m.msb <;> simp <;> omega
  rw [hnot]
  omega

/-- The bit formula of the model's SBC is the range of the signed difference. -/
theorem sbc_eq (a m : Byte) (p : Status) :
    let diff : Int := a.toNat - m.toNat - (1 - p.c.toNat)
    let signed : Int := a.toInt - m.toInt - (1 - p.c.toNat)
    sbc a m p = (BitVec.ofInt 8 diff,
      nz { p with c := decide (0 ≤ diff), v := decide (signed < -128 ∨ 127 < signed) } (BitVec.ofInt 8 diff)) := by
  have hsum := adcSum_not_eq_sbcDiff_add a m p.c
  simp only [sbc_eq_adc_not, adc_eq, signedDiff_eq_signedSum_not, ofInt_eq_ofNat_of_add hsum,
    nonneg_iff_carry_of_add hsum]

theorem signedDiff_out_of_range_iff (a m : Byte) (c : Bool) :
    let diff : Int := a.toNat - m.toNat - (1 - c.toNat)
    let signed : Int := a.toInt - m.toInt - (1 - c.toNat)
    (signed < -128 ∨ 127 < signed) ↔ a.msb ≠ m.msb ∧ (BitVec.ofInt 8 diff).msb ≠ a.msb := by
  intro diff signed
  have hsigned : signed = a.toInt + (~~~m).toInt + c.toNat := signedDiff_eq_signedSum_not a m c
  have hsign : a.msb = (~~~m).msb ↔ a.msb ≠ m.msb := by
    rw [BitVec.msb_not]
    cases a.msb <;> cases m.msb <;> simp
  rw [hsigned, signedSum_out_of_range_iff, ofInt_eq_ofNat_of_add (adcSum_not_eq_sbcDiff_add a m c), hsign]

/-- The rows of the opcode table with the mnemonic SBC are the eight forms. -/
theorem row_mem_codesSbc : ∀ r ∈ opcodeTable, r.mnemonic ∈ [Mnemonic.SBC] →
    (r.mnemonic, r.mode, r.opcode) ∈ codesSbc := by
  simp only [opcodeTable, List.forall_mem_append]
  and_intros <;> decide

/-- Settles O20: as ADC, with the difference. -/
theorem sbcSubtractsMemoryAndBorrow : Obligations.SbcSubtractsMemoryAndBorrow := by
  intro i o s hmnemonic ho m diff r signed
  have ha : readAct i.mnemonic = some subtractAct := by rw [hmnemonic, readAct]
  refine ⟨mem_codes_of_row_mem row_mem_codesSbc (by simp [hmnemonic]), ?_, signedDiff_out_of_range_iff s.a m s.p.c⟩
  exact yields_of_putA ho ha fun u hua hup => by rw [subtractAct, hua, hup, sbc_eq]

end Sys2Proof.Proofs

/-! ### Interrupt sequences (60_exceptions.md R255 to R258, R261, R262) -/

namespace Sys2Proof.Proofs

open Sys2Proof.Machine Sys2Proof.Spec Sys2Proof.Laws

/-! What an interrupt entry does, said once for all four kinds -/

/-- The state of an interrupt entry before it sets I and takes the vector (60_exceptions.md R255, cycles 1 to 5). -/
def interruptSaved (k : InterruptKind) (s : State) : State := interruptSave k (interruptMarkB k (interruptLead k s))

theorem interruptEntry_eq (k : InterruptKind) (s : State) :
    interruptEntry k s = interruptFinish k (Config.resetDraw s.clock)
      (loadVector k (setP { (interruptSaved k s).p with i := true } (interruptSaved k s))) := rfl

theorem StoresMade.then_interruptFinish {s u : State} {stores : List (Addr × Byte)} {l : List BusCycle}
    (h : StoresMade s u stores l) (k : InterruptKind) (draw : Config.ResetDraw) :
    StoresMade s (interruptFinish k draw u) stores l := by
  cases k <;> exact h

theorem interruptFinish_pc (k : InterruptKind) (draw : Config.ResetDraw) (u : State) :
    (interruptFinish k draw u).pc = u.pc := by
  cases k <;> rfl

/-- After cycles 1 to 5 only the vector is read, as it was before the stores on the stack. -/
theorem storesMade_interruptEntry {k : InterruptKind} {s : State} {stores : List (Addr × Byte)} {l : List BusCycle}
    (h : StoresMade s (interruptSaved k s) stores l) (hstack : ∀ e ∈ stores, ∃ v, e.1 = stk v) :
    StoresMade s (interruptEntry k s) stores
        (l ++ [rd s l.length (vectorAddr k), rd s (l.length + 1) (vectorAddr k + 1)]) ∧
      (interruptEntry k s).pc = word (busValue s (s.clock + (l.length + 1)) (vectorAddr k + 1))
        (busValue s (s.clock + l.length) (vectorAddr k)) := by
  obtain ⟨hmade, hpc⟩ := (h.then_setP { (interruptSaved k s).p with i := true }).then_loadVector hstack k
  rw [interruptEntry_eq, interruptFinish_pc]
  exact ⟨hmade.then_interruptFinish k _, hpc⟩

/-! RESET -/

/-- RESET writes nothing: the pushes of the other kinds are reads (60_exceptions.md R256). -/
theorem storesMade_resetSaved (s : State) :
    StoresMade s (interruptSaved .reset s) []
      [dr s 0 s.pc, dr s 1 s.pc, dr s 2 (stk s.sp), dr s 3 (stk (s.sp - 1)), dr s 4 (stk (s.sp - 2))] := by
  have hlead : ReadsMade s (interruptLead .reset s) [dr s 0 s.pc, dr s 1 s.pc] :=
    ((ReadsMade.refl s).then_dummyRead _).then_dummyRead _
  have hread := ((hlead.then_dummyRead (stk s.sp)).then_dummyRead (stk (s.sp - 1))).then_dummyRead (stk (s.sp - 2))
  have hsaved : interruptSaved .reset s = dummyRead (stk (s.sp - 2)) (dummyRead (stk (s.sp - 1))
      (dummyRead (stk s.sp) (interruptLead .reset s))) := by
    simp only [interruptSaved, interruptSave, interruptMarkB, stackAddr_eq_stk, interruptLead_sp]
  rw [hsaved]
  exact StoresMade.of_readsMade hread (by simp) (by simp)

/-- RESET consumes its request (60_exceptions.md R251). -/
theorem interruptEntry_reset_resetReq (s : State) : (interruptEntry .reset s).resetReq = false := rfl

theorem interruptEntry_afterBrk_of_ne {k : InterruptKind} (hk : k ≠ .brk) (s : State) :
    (interruptEntry k s).afterBrk = false := by
  rwa [← Bool.not_eq_true, interruptEntry_afterBrk]

/-- The step of a boundary that takes an interrupt is the interrupt's entry (60_exceptions.md R255). -/
theorem step_of_boundary_take {s : State} {k : InterruptKind} (h : boundary (atBoundary s) = .take k) :
    step s = .next (interruptEntry k (atBoundary s)) := by
  simp only [step, h]

/-- Settles O13: of the draw, only A, X, Y, S, the NMI latch and flags other than D and I are taken. -/
theorem resetSequence : Obligations.ResetSequence := by
  intro s hreset b
  obtain ⟨htake, _⟩ := boundaryPriority b
  obtain ⟨hi, hd⟩ := interruptEntry_flags .reset b
  obtain ⟨hboard, henv, hirq⟩ := interruptEntry_platform .reset b
  obtain ⟨⟨hmade, _, hmem⟩, hpc⟩ := storesMade_interruptEntry (storesMade_resetSaved b) (by simp)
  exact ⟨_, step_of_boundary_take (htake hreset), hi, hd, hpc, hmem, interruptEntry_reset_resetReq b, hirq, hboard, henv,
    interruptEntry_afterBrk_of_ne (k := .reset) nofun b, hmade⟩

/-- Settles O48: the sequence of O13 from a state whose PC and S are 0 and whose memory is empty. -/
theorem powerOnStartsWithReset : Obligations.PowerOnStartsWithReset := by
  obtain ⟨t, hstep, hi, _, hpc, _, hreset, _, _, _, _, hcycles, _⟩ := resetSequence State.powerOn rfl
  refine ⟨t, hstep, hreset, hi, hpc, ?_, ?_⟩
  · rw [hcycles]
    rfl
  · rw [hcycles]
    simp [atBoundary, rd, dr]

/-! NMI, IRQ and BRK -/

/-- The address that an interrupt pushes: BRK has advanced PC once more (60_exceptions.md R255, R259). -/
def pushedPc (k : InterruptKind) (s : State) : Addr := if k = .brk then s.pc + 1 else s.pc

/-- The P that an interrupt pushes: B tells a BRK from the others (60_exceptions.md R255, R261). -/
def pushedP (k : InterruptKind) (p : Status) : Status := { p with b := decide (k = .brk) }

/-- The accesses before the pushes (60_exceptions.md R255, cycles 1 and 2; the opcode fetch of a BRK is before its entry). -/
def leadAccesses (k : InterruptKind) (s : State) : List BusCycle :=
  if k = .brk then [dr s 0 s.pc] else [dr s 0 s.pc, dr s 1 s.pc]

/-- The stores of the three pushes, the latest first. -/
def frameStores (k : InterruptKind) (s : State) : List (Addr × Byte) :=
  [(stk (s.sp - 2), pByte (pushedP k s.p)), (stk (s.sp - 1), low (pushedPc k s)), (stk s.sp, high (pushedPc k s))]

/-- The writes of the three pushes. -/
def frameWrites (k : InterruptKind) (s : State) : List BusCycle :=
  [⟨.write, stk s.sp, high (pushedPc k s)⟩, ⟨.write, stk (s.sp - 1), low (pushedPc k s)⟩,
    ⟨.write, stk (s.sp - 2), pByte (pushedP k s.p)⟩]

theorem readsMade_interruptLead (k : InterruptKind) (s : State) :
    ReadsMade s (interruptLead k s) (leadAccesses k s) := by
  cases k with
  | brk => exact ((ReadsMade.refl s).then_dummyRead _).then_setPc _
  | reset | nmi | irq => exact ((ReadsMade.refl s).then_dummyRead _).then_dummyRead _

theorem interruptLead_pc (k : InterruptKind) (s : State) : (interruptLead k s).pc = pushedPc k s := by
  cases k <;> rfl

theorem interruptMarkB_eq {k : InterruptKind} (hk : k ≠ .reset) (s : State) :
    interruptMarkB k s = setP (pushedP k s.p) s := by
  cases k with
  | reset => exact absurd rfl hk
  | nmi | irq | brk => rfl

theorem storesMade_interruptSaved {k : InterruptKind} (hk : k ≠ .reset) (s : State) :
    StoresMade s (interruptSaved k s) (frameStores k s) (leadAccesses k s ++ frameWrites k s) := by
  have hlead := StoresMade.of_readsMade (readsMade_interruptLead k s) (interruptLead_board k s) (interruptLead_mem k s)
  have hsaved := (hlead.then_setP (pushedP k s.p)).then_interruptSave hk
  simpa only [interruptSaved, interruptMarkB_eq hk, interruptLead_p, interruptLead_pc, interruptLead_sp, setP_sp, setP_p,
    setP_pc, frameStores, frameWrites] using hsaved

theorem frameStores_on_stack (k : InterruptKind) (s : State) : ∀ e ∈ frameStores k s, ∃ v, e.1 = stk v := by
  simp [frameStores]

theorem interruptSaved_sp {k : InterruptKind} (hk : k ≠ .reset) (s : State) : (interruptSaved k s).sp = s.sp - 3 := by
  cases k with
  | reset => exact absurd rfl hk
  | nmi | irq | brk =>
    simp only [interruptSaved, interruptSave, push_sp, interruptMarkB_sp, interruptLead_sp, sp_sub_one_sub_one,
      sp_sub_two_sub_one]

/-- Outside RESET, A, X and Y stay, S is 3 less, B tells the kind and I is set (60_exceptions.md R255). -/
theorem interruptEntry_regs {k : InterruptKind} (hk : k ≠ .reset) (s : State) :
    (interruptEntry k s).a = s.a ∧ (interruptEntry k s).x = s.x ∧ (interruptEntry k s).y = s.y ∧
      (interruptEntry k s).sp = s.sp - 3 ∧ (interruptEntry k s).p = { pushedP k s.p with i := true } := by
  have ha : (interruptSaved k s).a = s.a := by simp [interruptSaved]
  have hx : (interruptSaved k s).x = s.x := by simp [interruptSaved]
  have hy : (interruptSaved k s).y = s.y := by simp [interruptSaved]
  have hp : (interruptSaved k s).p = pushedP k s.p := by simp [interruptSaved, interruptMarkB_eq hk]
  rw [interruptEntry_eq]
  cases k with
  | reset => exact absurd rfl hk
  | nmi | irq | brk => simp [interruptFinish, ha, hx, hy, hp, interruptSaved_sp hk]

/-- After an NMI or IRQ, the registers, the stack and the accesses are those of 60_exceptions.md R255. -/
theorem interruptEntry_hardware {k : InterruptKind} (hreset : k ≠ .reset) (hbrk : k ≠ .brk) (s : State) :
    Regs s (interruptEntry k s) s.a s.x s.y (s.sp - 3) { s.p with b := false, i := true } (handler s (vectorAddr k))
        [(stk (s.sp - 2), pByte { s.p with b := false }), (stk (s.sp - 1), low s.pc), (stk s.sp, high s.pc)] ∧
      Made s (interruptEntry k s) (pushAccesses s { s.p with b := false } (vectorAddr k)) := by
  obtain ⟨ha, hx, hy, hsp, hp⟩ := interruptEntry_regs hreset s
  obtain ⟨⟨hmade, _, hmem⟩, hpc⟩ :=
    storesMade_interruptEntry (storesMade_interruptSaved hreset s) (frameStores_on_stack k s)
  simp only [frameStores, frameWrites, leadAccesses, pushedP, pushedPc, hbrk, decide_false, if_false] at hp hmade hmem hpc
  exact ⟨⟨ha, hx, hy, hsp, hp, hpc, hmem⟩, hmade⟩

/-- A boundary that takes an NMI or IRQ: the entry, the requests it consumes and the platform it leaves. -/
theorem exists_step_of_take {s b : State} {k : InterruptKind} (hb : atBoundary s = b) (htake : boundary b = .take k)
    (hk : k ≠ .reset) (hreset : b.resetReq = false) :
    ∃ t, step s = .next t ∧
      Regs b t b.a b.x b.y (b.sp - 3) { b.p with b := false, i := true } (handler b (vectorAddr k))
        [(stk (b.sp - 2), pByte { b.p with b := false }), (stk (b.sp - 1), low b.pc), (stk b.sp, high b.pc)] ∧
      t.nmiPending = false ∧ t.resetReq = false ∧ t.irqLine = b.irqLine ∧ t.board = b.board ∧ t.env = b.env ∧
      t.afterBrk = false ∧ Made b t (pushAccesses b { b.p with b := false } (vectorAddr k)) := by
  subst hb
  have hbrk : k ≠ .brk := fun h => boundary_ne_brk _ (h ▸ htake)
  obtain ⟨hregs, hmade⟩ := interruptEntry_hardware hk hbrk (atBoundary s)
  obtain ⟨hboard, henv, hirq⟩ := interruptEntry_platform k (atBoundary s)
  obtain ⟨hreset', hnmi'⟩ := interruptEntry_requests htake
  exact ⟨_, step_of_boundary_take htake, hregs, hnmi' hreset, hreset', hirq, hboard, henv,
    interruptEntry_afterBrk_of_ne hbrk _, hmade⟩

/-- Settles O14: the boundary takes the NMI. -/
theorem nmiSequence : Obligations.NmiSequence := by
  intro s hreset hnmi hmark
  obtain ⟨_, _, hboundary, _⟩ := boundaryPriority (atBoundary s)
  exact exists_step_of_take (k := .nmi) rfl (hboundary hreset hnmi hmark) nofun hreset

/-- Settles O15: with I clear the boundary takes the IRQ, with I set it runs the instruction. -/
theorem irqSequence : Obligations.IrqSequence := by
  intro s hreset hnmi hline b
  obtain ⟨_, _, _, htaken, hmasked, _⟩ := boundaryPriority b
  refine ⟨fun hi => ?_, fun hi _ hfetch => step_of_boundary_run (hmasked hreset hnmi hline hi) hfetch⟩
  have hstep := exists_step_of_take (k := .irq) (b := b) rfl (htaken hreset hnmi hline hi) nofun hreset
  rwa [show b.irqLine = true from hline] at hstep

/-! RTI after an interrupt entry -/

/-- P through the stack and back (10_state.md R24, R25). -/
theorem flagsOf_pByte (p : Status) : flagsOf (pByte p) = p := by
  rw [← toByte_eq_pByte, ← ofByte_eq_flagsOf, ofByte_toByte]

theorem stk_sub_two_ne (v : Byte) : (stk v).toNat ≠ (stk (v - 2)).toNat := by
  rw [stk_toNat, stk_toNat]
  bv_omega

/-- The three bytes of the frame, where the stack is plain memory: no push of an entry overwrites another. -/
theorem stored_frameStores {s : State} (hhigh : targetAt s.board (stk s.sp) = .memory)
    (hlow : targetAt s.board (stk (s.sp - 1)) = .memory) (hflags : targetAt s.board (stk (s.sp - 2)) = .memory)
    (k : InterruptKind) :
    stored s (frameStores k s) (stk (s.sp - 2)).toNat = pByte (pushedP k s.p) ∧
      stored s (frameStores k s) (stk (s.sp - 1)).toNat = low (pushedPc k s) ∧
      stored s (frameStores k s) (stk s.sp).toNat = high (pushedPc k s) := by
  have hne : (stk (s.sp - 1)).toNat ≠ (stk (s.sp - 2)).toNat := by
    rw [← sp_sub_one_sub_one]
    exact stk_sub_one_ne _
  simp only [frameStores, stored, hhigh, hlow, hflags, hne, stk_sub_one_ne, stk_sub_two_ne, false_and, and_self, if_true,
    if_false]

/-- Settles O16: the three pulls of O43 meet the three bytes of the frame. -/
theorem rtiInvertsInterruptEntry : Obligations.RtiInvertsInterruptEntry := by
  intro k s hk hhigh hlow hflags
  obtain ⟨ha, hx, hy, hsp, _⟩ := interruptEntry_regs hk s
  obtain ⟨hentry, _⟩ := storesMade_interruptEntry (storesMade_interruptSaved hk s) (frameStores_on_stack k s)
  have hbus {a : Addr} (hplain : targetAt s.board a = .memory) (n : Nat) :
      busValue (interruptEntry k s) n a = stored s (frameStores k s) a.toNat := by
    rw [hentry.busValue_eq, answerAfter, if_neg (by rw [hplain]; nofun)]
  obtain ⟨hbyte_flags, hbyte_low, hbyte_high⟩ := stored_frameStores hhigh hlow hflags k
  have hsp_one : (interruptEntry k s).sp + 1 = s.sp - 2 := by rw [hsp]; bv_omega
  have hsp_two : (interruptEntry k s).sp + 2 = s.sp - 1 := by rw [hsp]; bv_omega
  have hsp_three : (interruptEntry k s).sp + 3 = s.sp := by rw [hsp]; bv_omega
  obtain ⟨⟨t, hexec, ⟨hta, htx, hty, htsp, htp, htpc, _⟩, _⟩, _⟩ := rtiRestoresStatusAndPc (interruptEntry k s)
  rw [hsp_one, hbus hflags, hbyte_flags, flagsOf_pByte] at htp
  rw [hsp_two, hsp_three, hbus hhigh, hbus hlow, hbyte_high, hbyte_low, word_high_low] at htpc
  exact ⟨t, hexec, htpc, htsp.trans hsp_three, htp, hta.trans ha, htx.trans hx, hty.trans hy⟩

end Sys2Proof.Proofs

/-! ### Clock counts (70_reset_and_hazards.md R300, 30_encoding.md R96) -/

namespace Sys2Proof.Proofs

open Sys2Proof.Machine Sys2Proof.Spec Sys2Proof.Laws

/-! The CLK and notes columns -/

/-- The mnemonics whose cycle tables are not those of a mode (45_jump_interrupt.md). -/
def ownCycleTable : List Mnemonic := [.JMP, .JSR, .RTS, .RTI, .BRK]

/-- The clocks that a mnemonic adds to those of its mode with one access: two for a read-modify-write, one for a push, two
for a pull (40_addressing_modes.md R117, R122). -/
def addedClocks : Mnemonic → Nat
  | .ASL | .LSR | .ROL | .ROR | .INC | .DEC | .PLA | .PLP => 2
  | .PHA | .PHP => 1
  | _ => 0

/-- The columns of a row follow from its mnemonic and mode. -/
theorem row_clk_and_extra : ∀ r ∈ opcodeTable, r.mnemonic ∉ ownCycleTable →
    r.clk = (EncodedForm.accessClocks r.mode).1 + (if r.mode = .accumulator then 0 else addedClocks r.mnemonic) ∧
      r.extra = (EncodedForm.accessClocks r.mode).2 := by
  simp only [opcodeTable, List.forall_mem_append]
  and_intros <;> decide

/-- So do those of an instruction, which are its row's. -/
theorem clocks_and_extraClocks {i : Instr} (h : i.mnemonic ∉ ownCycleTable) :
    i.clocks = (EncodedForm.accessClocks i.mode).1 + (if i.mode = .accumulator then 0 else addedClocks i.mnemonic) ∧
      i.extraClocks = (EncodedForm.accessClocks i.mode).2 := by
  obtain ⟨r, hmem, hmnemonic, hmode, hopcode⟩ := exists_row_of_instr i
  have hrow : opcodeRow? i.opcode = some r := opcodeRow?_eq_some_iff.2 ⟨hmem, hopcode.symm⟩
  rw [hmnemonic] at h
  rw [Instr.clocks, Instr.extraClocks, hrow, hmnemonic, hmode]
  exact row_clk_and_extra r hmem h

theorem addedClocks_of_readAct {m : Mnemonic} {act : Byte → State → State} (h : readAct m = some act) :
    m ∉ ownCycleTable ∧ addedClocks m = 0 := by
  cases m <;> cases h <;> decide

theorem addedClocks_of_storedReg {m : Mnemonic} {s : State} {v : Byte} (h : storedReg m s = some v) :
    m ∉ ownCycleTable ∧ addedClocks m = 0 := by
  cases m <;> cases h <;> decide

theorem addedClocks_of_modifyFn {m : Mnemonic} {f : Byte → Status → Byte × Status} (h : modifyFn m = some f) :
    m ∉ ownCycleTable ∧ addedClocks m = 2 := by
  cases m <;> cases h <;> decide

theorem addedClocks_of_flagged {m : Mnemonic} {p q : Status} (h : flagged m p = some q) :
    m ∉ ownCycleTable ∧ addedClocks m = 0 := by
  cases m <;> cases h <;> decide

theorem addedClocks_of_branchCond {m : Mnemonic} {p : Status} {taken : Bool} (h : branchCond m p = some taken) :
    m ∉ ownCycleTable ∧ addedClocks m = 0 := by
  cases m <;> cases h <;> decide

/-- After the two accesses of the Implied mode only pushes and pulls take clocks. -/
theorem addedClocks_of_impliedAct {m : Mnemonic} {act : State → State} (h : impliedAct m = some act) :
    m ∉ ownCycleTable ∧ ∀ u, (act u).clock = u.clock + addedClocks m := by
  cases m <;> cases h <;> exact ⟨by decide, fun u => by simp [addedClocks, loadA, loadX, loadY]⟩

/-! Clocks of the modes -/

theorem extraClocks_of_never {i : Instr} (h : i.extraClocks = .never) (s : State) : Spec.extraClocks i s = 0 := by
  simp only [Spec.extraClocks, h]

/-- The accesses of a memory mode and one more: the mode's clocks and, where the notes column says so, that of a page cross
(40_addressing_modes.md R123). -/
theorem length_access_add_one {i : Instr} {m : MemOperand} (hm : i.memOperand? = some m)
    (hextra : i.extraClocks = (EncodedForm.accessClocks i.mode).2) (s : State) :
    (access s m).length + 1 = (EncodedForm.accessClocks i.mode).1 + Spec.extraClocks i s := by
  rw [Spec.extraClocks, hextra, hm]
  rw [Instr.memOperand?] at hm
  generalize i.mode = mode, i.operands = bytes at hm
  unfold MemOperand.ofMode at hm
  split at hm <;> cases hm
  case h_1 | h_2 | h_3 | h_4 | h_7 => rfl
  case h_5 lo hi => cases h : crosses lo s.x <;> simp [access, EncodedForm.accessClocks, h]
  case h_6 lo hi => cases h : crosses lo s.y <;> simp [access, EncodedForm.accessClocks, h]
  case h_8 lo =>
    cases h : crosses (busValue s (s.clock + 2) (zp lo.toNat)) s.y <;>
      simp [access, EncodedForm.accessClocks, h]

theorem length_readAccesses {i : Instr} {o : ReadOperand} (ho : i.readOperand? = some o)
    (hextra : i.extraClocks = (EncodedForm.accessClocks i.mode).2) (s : State) :
    (readAccesses s o).length = (EncodedForm.accessClocks i.mode).1 + Spec.extraClocks i s := by
  unfold Instr.readOperand? at ho
  split at ho
  next hmode _ =>
    cases ho
    rw [hmode] at hextra ⊢
    rw [extraClocks_of_never hextra]
    rfl
  next =>
    obtain ⟨m, hm, rfl⟩ := Option.map_eq_some_iff.mp ho
    rw [← length_access_add_one hm hextra, readAccesses, List.length_append, List.length_singleton]

/-! Clocks of the instructions -/

/-- The instruction completes and takes the clocks of its columns. -/
def TakesClocks (i : Instr) (s : State) : Prop :=
  ∃ t, exec i s = .next t ∧ t.clock = s.clock + i.clocks + Spec.extraClocks i s ∧
    t.cycles.length = s.cycles.length + i.clocks + Spec.extraClocks i s

/-- Every clock has its access, so the clocks alone are to be counted (20_memory.md R66). -/
theorem takesClocks_of_clock {i : Instr} {s t : State} (he : exec i s = .next t)
    (hclock : t.clock = s.clock + (i.clocks + Spec.extraClocks i s)) : TakesClocks i s := by
  obtain ⟨l, _, hcycles, hlength, _⟩ := exec_throughBus he
  refine ⟨t, he, by omega, ?_⟩
  rw [hcycles, List.length_append]
  omega

theorem takesClocks_of_yields {i : Instr} {s : State} {a x y sp : Byte} {p : Status} {pc : Addr}
    {stores : List (Addr × Byte)} {l : List BusCycle} (h : Yields i s a x y sp p pc stores l)
    (hl : l.length = i.clocks + Spec.extraClocks i s) : TakesClocks i s := by
  obtain ⟨t, he, _, _, _, hclock⟩ := h
  exact takesClocks_of_clock he (by rw [hclock, hl])

/-- A mnemonic that adds nothing takes the clocks of its mode, whatever the mode. -/
theorem clocks_of_addedClocks_eq_zero {i : Instr} (h : i.mnemonic ∉ ownCycleTable ∧ addedClocks i.mnemonic = 0) :
    i.clocks = (EncodedForm.accessClocks i.mode).1 ∧ i.extraClocks = (EncodedForm.accessClocks i.mode).2 := by
  obtain ⟨hown, hzero⟩ := h
  obtain ⟨hclocks, hextra⟩ := clocks_and_extraClocks hown
  rw [hzero, ite_self] at hclocks
  exact ⟨hclocks, hextra⟩

theorem takesClocks_of_readAct {i : Instr} {o : ReadOperand} {act : Byte → State → State} (ho : i.readOperand? = some o)
    (ha : readAct i.mnemonic = some act) (s : State) : TakesClocks i s := by
  obtain ⟨hclocks, hextra⟩ := clocks_of_addedClocks_eq_zero (addedClocks_of_readAct ha)
  exact takesClocks_of_yields (yields_of_readAct ho ha s) (by rw [length_readAccesses ho hextra, hclocks])

theorem takesClocks_of_storedReg {i : Instr} {m : MemOperand} {s : State} {v : Byte} (hm : i.memOperand? = some m)
    (hv : storedReg i.mnemonic s = some v) : TakesClocks i s := by
  obtain ⟨hclocks, hextra⟩ := clocks_of_addedClocks_eq_zero (addedClocks_of_storedReg hv)
  obtain ⟨_, hyields⟩ := storeInstructions i m s v hm hv
  refine takesClocks_of_yields hyields ?_
  rw [storeAccesses, List.length_append, List.length_singleton, length_access_add_one hm hextra, hclocks]

theorem takesClocks_of_modifyFn {i : Instr} {m : MemOperand} {f : Byte → Status → Byte × Status}
    (hm : i.memOperand? = some m) (hf : modifyFn i.mnemonic = some f) (s : State) : TakesClocks i s := by
  obtain ⟨hown, htwo⟩ := addedClocks_of_modifyFn hf
  obtain ⟨hclocks, hextra⟩ := clocks_and_extraClocks hown
  have hmode : i.mode ≠ .accumulator := fun h => nomatch hm.symm.trans (memOperand_eq_none_of_accumulator h)
  rw [if_neg hmode, htwo] at hclocks
  obtain ⟨g, hyields⟩ := yields_of_modifyFn (s := s) hm hf rfl
  refine takesClocks_of_yields hyields ?_
  have hlength := length_access_add_one hm hextra s
  simp only [modifyAccesses, List.length_append, List.length_cons, List.length_nil]
  omega

theorem takesClocks_of_modifyFn_accumulator {i : Instr} {f : Byte → Status → Byte × Status}
    (hmode : i.mode = .accumulator) (hf : modifyFn i.mnemonic = some f) (s : State) : TakesClocks i s := by
  obtain ⟨hown, _⟩ := addedClocks_of_modifyFn hf
  obtain ⟨hclocks, hextra⟩ := clocks_and_extraClocks hown
  rw [hmode] at hclocks hextra
  refine takesClocks_of_yields (yields_of_modifyFn_accumulator (s := s) hmode hf rfl) ?_
  rw [hclocks, extraClocks_of_never hextra]
  rfl

theorem takesClocks_of_impliedAct {i : Instr} {act : State → State} (hmode : i.mode = .implied)
    (ha : impliedAct i.mnemonic = some act) (s : State) : TakesClocks i s := by
  obtain ⟨hown, hact⟩ := addedClocks_of_impliedAct ha
  obtain ⟨hclocks, hextra⟩ := clocks_and_extraClocks hown
  rw [hmode] at hclocks hextra
  refine takesClocks_of_clock (exec_of_impliedAct ha s) ?_
  rw [withImplied_eq, hact, hclocks, extraClocks_of_never hextra]
  exact Nat.add_assoc s.clock 2 _

theorem takesClocks_of_flagged {i : Instr} {s : State} {p : Status} (hmode : i.mode = .implied)
    (hp : flagged i.mnemonic s.p = some p) : TakesClocks i s := by
  obtain ⟨hclocks, hextra⟩ := clocks_of_addedClocks_eq_zero (addedClocks_of_flagged hp)
  rw [hmode] at hclocks hextra
  obtain ⟨_, hyields⟩ := flagInstructions i s p hp
  refine takesClocks_of_yields hyields ?_
  rw [hclocks, extraClocks_of_never hextra]
  rfl

theorem mode_of_mem_codesBranch : ∀ e ∈ codesBranch, e.2.1 = .relative := by decide

/-- The clocks that a branch adds (70_reset_and_hazards.md R300). -/
theorem extraClocks_of_branchCond {i : Instr} {off : Byte} {s : State} {taken : Bool}
    (hextra : i.extraClocks = .branch) (hc : branchCond i.mnemonic s.p = some taken) (ho : i.operands = [off]) :
    Spec.extraClocks i s =
      if taken then if high (branchTarget s off) = high (s.pc + 2) then 1 else 2 else 0 := by
  simp only [Spec.extraClocks, hextra, hc, ho]
  cases taken <;> rfl

theorem takesClocks_of_branchCond {i : Instr} {off : Byte} {s : State} {taken : Bool}
    (hc : branchCond i.mnemonic s.p = some taken) (ho : i.operands = [off]) : TakesClocks i s := by
  obtain ⟨hcode, hyields⟩ := branchInstructions i off s taken hc ho
  have hmode : i.mode = .relative := mode_of_mem_codesBranch _ hcode
  obtain ⟨hclocks, hextra⟩ := clocks_of_addedClocks_eq_zero (addedClocks_of_branchCond hc)
  rw [hmode] at hclocks hextra
  refine takesClocks_of_yields hyields ?_
  rw [hclocks, extraClocks_of_branchCond hextra hc ho]
  cases taken with
  | false => rfl
  | true =>
    by_cases hpage : high (branchTarget s off) = high (s.pc + 2)
    · rw [if_pos hpage, if_pos hpage]
      rfl
    · rw [if_neg hpage, if_neg hpage]
      rfl

/-- Settles O18: the accesses of each form are as many as the cycle table of its mode, or its own, says. -/
theorem clockCountsMatchTable : Obligations.ClockCountsMatchTable := by
  intro i s hbrk
  change TakesClocks i s
  cases exec_form i with
  | read ho ha _ => exact takesClocks_of_readAct ho ha s
  | store hm hr _ => exact takesClocks_of_storedReg hm (hr s)
  | modify hm hf _ => exact takesClocks_of_modifyFn hm hf s
  | accumulator hmode hf _ => exact takesClocks_of_modifyFn_accumulator hmode hf s
  | implied hmode ha _ => exact takesClocks_of_impliedAct hmode ha s
  | flag hmode hg _ => exact takesClocks_of_flagged hmode (hg s.p)
  | branch ho hc _ => exact takesClocks_of_branchCond (hc s.p) ho
  | jmpAbs lo hi =>
    obtain ⟨hyields, _⟩ := jumpInstructions lo hi s
    exact takesClocks_of_yields hyields rfl
  | jmpInd lo hi =>
    obtain ⟨_, hyields, _⟩ := jumpInstructions lo hi s
    exact takesClocks_of_yields hyields rfl
  | jsr lo hi =>
    obtain ⟨hyields, _⟩ := jsrPushesAndJumps lo hi s
    exact takesClocks_of_yields hyields rfl
  | rts =>
    obtain ⟨hyields, _⟩ := rtsPullsAndIncrements s
    exact takesClocks_of_yields hyields rfl
  | brk =>
    obtain ⟨t, he, _, _, _, _, _, _, _, _, hclock⟩ := brkTakenWhenNotMasked s (hbrk rfl)
    exact takesClocks_of_clock he hclock
  | rti =>
    obtain ⟨hyields, _⟩ := rtiRestoresStatusAndPc s
    exact takesClocks_of_yields hyields rfl

end Sys2Proof.Proofs
